-- ==== Sys2Proof/Word.lean ====
section
/-! DEFINITION. The words of the ISP: bytes, 16-bit operand values, text. -/

namespace Sys2Proof

/-- `u8` of 00_scope.md R6: an input byte, an opcode (BYTE_BITS = 8, R5). -/
abbrev Byte := BitVec 8

/-- `u16` of 00_scope.md R6: a 16-bit operand value or branch target (ADDR_BITS = 16, R5). -/
abbrev Word := BitVec 16

/-- Text is a sequence of ASCII characters (47_render.md, opening). -/
abbrev Text := List Char

end Sys2Proof
end

