-- ==== Sys2Proof/Config.lean ====
section
/-! DEFINITION. The implementation parameters of 00_scope.md R5. -/

namespace Sys2Proof

/-- `MAX_LEN`: the longest instruction in bytes (00_scope.md R5). -/
def Config.maxLen : Nat := 3

/-- `N_OPCODES_DEFINED` (00_scope.md R5). -/
def Config.nOpcodesDefined : Nat := 151

/-- `N_MNEMONICS` (00_scope.md R5). -/
def Config.nMnemonics : Nat := 56

/-- `N_MODES`, without `Unknown` (00_scope.md R5). -/
def Config.nModes : Nat := 13

/-- `OFFSET_BITS`: the width of `pos` and of a record's offset; `none` is unbounded, the spec's value (00_scope.md R5,
92_eei_decisions.md D3). Log entry 7. -/
def Config.offsetBits : Option Nat := none

/-- The parameters of the text line that the source leaves open (00_scope.md R5, 93_implementation_defined.md U2 to U5).
Their defaults are `defaultParams` in Machine/Render.lean. Log entry 8. -/
structure RenderParams where
  /-- `MISSING_MARKER` (U2): the operand text of an unsatisfied record. -/
  missingMarker : Text
  /-- `IMPLIED_TRAILING_SPACE` (U3): whether an Implied line keeps the space before its empty operand. -/
  impliedTrailingSpace : Bool
  /-- `OFFSET_TEXT` (U4): the text of an offset of 0x10000 or more. -/
  offsetText : Nat → Text
  /-- What stands between the binary digits and the quoted character of an `Unknown` line (U5). -/
  unknownSeparator : Text

end Sys2Proof
end

