-- ==== Sys2Proof/Syntax.lean ====
section
/-! DEFINITION. The names of the spec: operations, addressing modes (00_scope.md R9) and the instructions, one
constructor per row of spec/opcode_table.json. -/

namespace Sys2Proof

/-- The 56 mnemonics in alphabetical order, and `Unknown` (00_scope.md R9, 30_encoding.md R69). -/
inductive Operation where
  | ADC | AND | ASL | BCC | BCS | BEQ | BIT | BMI
  | BNE | BPL | BRK | BVC | BVS | CLC | CLD | CLI
  | CLV | CMP | CPX | CPY | DEC | DEX | DEY | EOR
  | INC | INX | INY | JMP | JSR | LDA | LDX | LDY
  | LSR | NOP | ORA | PHA | PHP | PLA | PLP | ROL
  | ROR | RTI | RTS | SBC | SEC | SED | SEI | STA
  | STX | STY | TAX | TAY | TSX | TXA | TXS | TYA
  | Unknown
  deriving DecidableEq, Repr

/-- The 13 addressing modes in the source's order, and `Unknown` (00_scope.md R9, 30_encoding.md R69). -/
inductive AddressingMode where
  | Accumulator | Absolute | AbsoluteX | AbsoluteY | Immediate | Implied | Indirect | XIndirect | IndirectY
  | Relative | Zeropage | ZeropageX | ZeropageY | Unknown
  deriving DecidableEq, Repr

/-- What an opcode byte selects: one constructor per row of the opcode table (30_encoding.md R63, R64), in the table's
order. A name is the mnemonic and, where the mnemonic has several forms or the mode is Accumulator, the mode: `Imm`
Immediate, `Zp` Zeropage, `ZpX`, `ZpY`, `Abs` Absolute, `AbsX`, `AbsY`, `Ind` Indirect, `XInd` XIndirect, `IndY`
IndirectY, `A` Accumulator. The opcode byte alone selects the row (R60, R67). Operand bytes are no part of it: each comes
with a later `Byte` event, into the record in progress (40_parser.md R103, R104), log entry 2. -/
inductive Instr where
  | brk | oraXInd | oraZp | aslZp | php | oraImm | aslA | oraAbs
  | aslAbs | bpl | oraIndY | oraZpX | aslZpX | clc | oraAbsY | oraAbsX
  | aslAbsX | jsrAbs | andXInd | bitZp | andZp | rolZp | plp | andImm
  | rolA | bitAbs | andAbs | rolAbs | bmi | andIndY | andZpX | rolZpX
  | sec | andAbsY | andAbsX | rolAbsX | rti | eorXInd | eorZp | lsrZp
  | pha | eorImm | lsrA | jmpAbs | eorAbs | lsrAbs | bvc | eorIndY
  | eorZpX | lsrZpX | cli | eorAbsY | eorAbsX | lsrAbsX | rts | adcXInd
  | adcZp | rorZp | pla | adcImm | rorA | jmpInd | adcAbs | rorAbs
  | bvs | adcIndY | adcZpX | rorZpX | sei | adcAbsY | adcAbsX | rorAbsX
  | staXInd | styZp | staZp | stxZp | dey | txa | styAbs | staAbs
  | stxAbs | bcc | staIndY | styZpX | staZpX | stxZpY | tya | staAbsY
  | txs | staAbsX | ldyImm | ldaXInd | ldxImm | ldyZp | ldaZp | ldxZp
  | tay | ldaImm | tax | ldyAbs | ldaAbs | ldxAbs | bcs | ldaIndY
  | ldyZpX | ldaZpX | ldxZpY | clv | ldaAbsY | tsx | ldyAbsX | ldaAbsX
  | ldxAbsY | cpyImm | cmpXInd | cpyZp | cmpZp | decZp | iny | cmpImm
  | dex | cpyAbs | cmpAbs | decAbs | bne | cmpIndY | cmpZpX | decZpX
  | cld | cmpAbsY | cmpAbsX | decAbsX | cpxImm | sbcXInd | cpxZp | sbcZp
  | incZp | inx | sbcImm | nop | cpxAbs | sbcAbs | incAbs | beq
  | sbcIndY | sbcZpX | incZpX | sed | sbcAbsY | sbcAbsX | incAbsX
  /-- The row of the 105 undefined byte values (30_encoding.md R64), with the byte itself. -/
  | unknown (b : Byte)
  deriving DecidableEq, Repr

end Sys2Proof
end

