-- ==== Sys2Proof/Decode.lean ====
section
/-! DEFINITION. The opcode decoder: the opcode table of 30_encoding.md R63 as the function from a byte to an instruction,
`OpTab`, the dispatcher `Len` (R61), and the encoder. -/

namespace Sys2Proof

/-- Row 0x of the map of 30_encoding.md R63; `none` is a cell `-`. -/
def opcodeRow0 : List (Option Instr) := [
  some .brk, some .oraXInd, none, none, none, some .oraZp, some .aslZp, none, some .php,
  some .oraImm, some .aslA, none, none, some .oraAbs, some .aslAbs, none]

/-- Row 1x of the map of 30_encoding.md R63; `none` is a cell `-`. -/
def opcodeRow1 : List (Option Instr) := [
  some .bpl, some .oraIndY, none, none, none, some .oraZpX, some .aslZpX, none, some .clc,
  some .oraAbsY, none, none, none, some .oraAbsX, some .aslAbsX, none]

/-- Row 2x of the map of 30_encoding.md R63; `none` is a cell `-`. -/
def opcodeRow2 : List (Option Instr) := [
  some .jsrAbs, some .andXInd, none, none, some .bitZp, some .andZp, some .rolZp, none,
  some .plp, some .andImm, some .rolA, none, some .bitAbs, some .andAbs, some .rolAbs, none]

/-- Row 3x of the map of 30_encoding.md R63; `none` is a cell `-`. -/
def opcodeRow3 : List (Option Instr) := [
  some .bmi, some .andIndY, none, none, none, some .andZpX, some .rolZpX, none, some .sec,
  some .andAbsY, none, none, none, some .andAbsX, some .rolAbsX, none]

/-- Row 4x of the map of 30_encoding.md R63; `none` is a cell `-`. -/
def opcodeRow4 : List (Option Instr) := [
  some .rti, some .eorXInd, none, none, none, some .eorZp, some .lsrZp, none, some .pha,
  some .eorImm, some .lsrA, none, some .jmpAbs, some .eorAbs, some .lsrAbs, none]

/-- Row 5x of the map of 30_encoding.md R63; `none` is a cell `-`. -/
def opcodeRow5 : List (Option Instr) := [
  some .bvc, some .eorIndY, none, none, none, some .eorZpX, some .lsrZpX, none, some .cli,
  some .eorAbsY, none, none, none, some .eorAbsX, some .lsrAbsX, none]

/-- Row 6x of the map of 30_encoding.md R63; `none` is a cell `-`. -/
def opcodeRow6 : List (Option Instr) := [
  some .rts, some .adcXInd, none, none, none, some .adcZp, some .rorZp, none, some .pla,
  some .adcImm, some .rorA, none, some .jmpInd, some .adcAbs, some .rorAbs, none]

/-- Row 7x of the map of 30_encoding.md R63; `none` is a cell `-`. -/
def opcodeRow7 : List (Option Instr) := [
  some .bvs, some .adcIndY, none, none, none, some .adcZpX, some .rorZpX, none, some .sei,
  some .adcAbsY, none, none, none, some .adcAbsX, some .rorAbsX, none]

/-- Row 8x of the map of 30_encoding.md R63; `none` is a cell `-`. -/
def opcodeRow8 : List (Option Instr) := [
  none, some .staXInd, none, none, some .styZp, some .staZp, some .stxZp, none, some .dey, none,
  some .txa, none, some .styAbs, some .staAbs, some .stxAbs, none]

/-- Row 9x of the map of 30_encoding.md R63; `none` is a cell `-`. -/
def opcodeRow9 : List (Option Instr) := [
  some .bcc, some .staIndY, none, none, some .styZpX, some .staZpX, some .stxZpY, none,
  some .tya, some .staAbsY, some .txs, none, none, some .staAbsX, none, none]

/-- Row Ax of the map of 30_encoding.md R63; `none` is a cell `-`. -/
def opcodeRowA : List (Option Instr) := [
  some .ldyImm, some .ldaXInd, some .ldxImm, none, some .ldyZp, some .ldaZp, some .ldxZp, none,
  some .tay, some .ldaImm, some .tax, none, some .ldyAbs, some .ldaAbs, some .ldxAbs, none]

/-- Row Bx of the map of 30_encoding.md R63; `none` is a cell `-`. -/
def opcodeRowB : List (Option Instr) := [
  some .bcs, some .ldaIndY, none, none, some .ldyZpX, some .ldaZpX, some .ldxZpY, none,
  some .clv, some .ldaAbsY, some .tsx, none, some .ldyAbsX, some .ldaAbsX, some .ldxAbsY, none]

/-- Row Cx of the map of 30_encoding.md R63; `none` is a cell `-`. -/
def opcodeRowC : List (Option Instr) := [
  some .cpyImm, some .cmpXInd, none, none, some .cpyZp, some .cmpZp, some .decZp, none,
  some .iny, some .cmpImm, some .dex, none, some .cpyAbs, some .cmpAbs, some .decAbs, none]

/-- Row Dx of the map of 30_encoding.md R63; `none` is a cell `-`. -/
def opcodeRowD : List (Option Instr) := [
  some .bne, some .cmpIndY, none, none, none, some .cmpZpX, some .decZpX, none, some .cld,
  some .cmpAbsY, none, none, none, some .cmpAbsX, some .decAbsX, none]

/-- Row Ex of the map of 30_encoding.md R63; `none` is a cell `-`. -/
def opcodeRowE : List (Option Instr) := [
  some .cpxImm, some .sbcXInd, none, none, some .cpxZp, some .sbcZp, some .incZp, none,
  some .inx, some .sbcImm, some .nop, none, some .cpxAbs, some .sbcAbs, some .incAbs, none]

/-- Row Fx of the map of 30_encoding.md R63; `none` is a cell `-`. -/
def opcodeRowF : List (Option Instr) := [
  some .beq, some .sbcIndY, none, none, none, some .sbcZpX, some .incZpX, none, some .sed,
  some .sbcAbsY, none, none, none, some .sbcAbsX, some .incAbsX, none]

/-- The map of 30_encoding.md R63: row = high hex digit of the opcode, column = low hex digit. -/
def opcodeMap : List (List (Option Instr)) := [
  opcodeRow0, opcodeRow1, opcodeRow2, opcodeRow3, opcodeRow4, opcodeRow5, opcodeRow6, opcodeRow7,
  opcodeRow8, opcodeRow9, opcodeRowA, opcodeRowB, opcodeRowC, opcodeRowD, opcodeRowE, opcodeRowF]

/-- The opcode decoder, total over all 256 byte values (30_encoding.md R60, R65): a byte whose cell is `-` is the
undefined instruction of that byte (R64). -/
def decode (b : Byte) : Instr :=
  match opcodeMap[b.toNat / 16]? with
  | none => .unknown b
  | some row =>
    match row[b.toNat % 16]? with
    | some (some i) => i
    | some none => .unknown b
    | none => .unknown b

/-- The mnemonic of an instruction: its row's in spec/opcode_table.json (30_encoding.md R63). -/
def Instr.operation : Instr → Operation
  | .adcXInd | .adcZp | .adcImm | .adcAbs | .adcIndY | .adcZpX | .adcAbsY | .adcAbsX => .ADC
  | .andXInd | .andZp | .andImm | .andAbs | .andIndY | .andZpX | .andAbsY | .andAbsX => .AND
  | .aslZp | .aslA | .aslAbs | .aslZpX | .aslAbsX => .ASL
  | .bcc => .BCC
  | .bcs => .BCS
  | .beq => .BEQ
  | .bitZp | .bitAbs => .BIT
  | .bmi => .BMI
  | .bne => .BNE
  | .bpl => .BPL
  | .brk => .BRK
  | .bvc => .BVC
  | .bvs => .BVS
  | .clc => .CLC
  | .cld => .CLD
  | .cli => .CLI
  | .clv => .CLV
  | .cmpXInd | .cmpZp | .cmpImm | .cmpAbs | .cmpIndY | .cmpZpX | .cmpAbsY | .cmpAbsX => .CMP
  | .cpxImm | .cpxZp | .cpxAbs => .CPX
  | .cpyImm | .cpyZp | .cpyAbs => .CPY
  | .decZp | .decAbs | .decZpX | .decAbsX => .DEC
  | .dex => .DEX
  | .dey => .DEY
  | .eorXInd | .eorZp | .eorImm | .eorAbs | .eorIndY | .eorZpX | .eorAbsY | .eorAbsX => .EOR
  | .incZp | .incAbs | .incZpX | .incAbsX => .INC
  | .inx => .INX
  | .iny => .INY
  | .jmpAbs | .jmpInd => .JMP
  | .jsrAbs => .JSR
  | .ldaXInd | .ldaZp | .ldaImm | .ldaAbs | .ldaIndY | .ldaZpX | .ldaAbsY | .ldaAbsX => .LDA
  | .ldxImm | .ldxZp | .ldxAbs | .ldxZpY | .ldxAbsY => .LDX
  | .ldyImm | .ldyZp | .ldyAbs | .ldyZpX | .ldyAbsX => .LDY
  | .lsrZp | .lsrA | .lsrAbs | .lsrZpX | .lsrAbsX => .LSR
  | .nop => .NOP
  | .oraXInd | .oraZp | .oraImm | .oraAbs | .oraIndY | .oraZpX | .oraAbsY | .oraAbsX => .ORA
  | .pha => .PHA
  | .php => .PHP
  | .pla => .PLA
  | .plp => .PLP
  | .rolZp | .rolA | .rolAbs | .rolZpX | .rolAbsX => .ROL
  | .rorZp | .rorA | .rorAbs | .rorZpX | .rorAbsX => .ROR
  | .rti => .RTI
  | .rts => .RTS
  | .sbcXInd | .sbcZp | .sbcImm | .sbcAbs | .sbcIndY | .sbcZpX | .sbcAbsY | .sbcAbsX => .SBC
  | .sec => .SEC
  | .sed => .SED
  | .sei => .SEI
  | .staXInd | .staZp | .staAbs | .staIndY | .staZpX | .staAbsY | .staAbsX => .STA
  | .stxZp | .stxAbs | .stxZpY => .STX
  | .styZp | .styAbs | .styZpX => .STY
  | .tax => .TAX
  | .tay => .TAY
  | .tsx => .TSX
  | .txa => .TXA
  | .txs => .TXS
  | .tya => .TYA
  | .unknown _ => .Unknown

/-- The addressing mode of an instruction: its row's in spec/opcode_table.json (30_encoding.md R63). -/
def Instr.mode : Instr → AddressingMode
  | .aslA | .rolA | .lsrA | .rorA => .Accumulator
  | .oraAbs | .aslAbs | .jsrAbs | .bitAbs | .andAbs | .rolAbs | .jmpAbs | .eorAbs
  | .lsrAbs | .adcAbs | .rorAbs | .styAbs | .staAbs | .stxAbs | .ldyAbs | .ldaAbs
  | .ldxAbs | .cpyAbs | .cmpAbs | .decAbs | .cpxAbs | .sbcAbs | .incAbs => .Absolute
  | .oraAbsX | .aslAbsX | .andAbsX | .rolAbsX | .eorAbsX | .lsrAbsX | .adcAbsX | .rorAbsX
  | .staAbsX | .ldyAbsX | .ldaAbsX | .cmpAbsX | .decAbsX | .sbcAbsX | .incAbsX => .AbsoluteX
  | .oraAbsY | .andAbsY | .eorAbsY | .adcAbsY | .staAbsY | .ldaAbsY | .ldxAbsY | .cmpAbsY
  | .sbcAbsY => .AbsoluteY
  | .oraImm | .andImm | .eorImm | .adcImm | .ldyImm | .ldxImm | .ldaImm | .cpyImm
  | .cmpImm | .cpxImm | .sbcImm => .Immediate
  | .brk | .php | .clc | .plp | .sec | .rti | .pha | .cli
  | .rts | .pla | .sei | .dey | .txa | .tya | .txs | .tay
  | .tax | .clv | .tsx | .iny | .dex | .cld | .inx | .nop
  | .sed => .Implied
  | .jmpInd => .Indirect
  | .oraXInd | .andXInd | .eorXInd | .adcXInd | .staXInd | .ldaXInd | .cmpXInd | .sbcXInd => .XIndirect
  | .oraIndY | .andIndY | .eorIndY | .adcIndY | .staIndY | .ldaIndY | .cmpIndY | .sbcIndY => .IndirectY
  | .bpl | .bmi | .bvc | .bvs | .bcc | .bcs | .bne | .beq => .Relative
  | .oraZp | .aslZp | .bitZp | .andZp | .rolZp | .eorZp | .lsrZp | .adcZp
  | .rorZp | .styZp | .staZp | .stxZp | .ldyZp | .ldaZp | .ldxZp | .cpyZp
  | .cmpZp | .decZp | .cpxZp | .sbcZp | .incZp => .Zeropage
  | .oraZpX | .aslZpX | .andZpX | .rolZpX | .eorZpX | .lsrZpX | .adcZpX | .rorZpX
  | .styZpX | .staZpX | .ldyZpX | .ldaZpX | .cmpZpX | .decZpX | .sbcZpX | .incZpX => .ZeropageX
  | .stxZpY | .ldxZpY => .ZeropageY
  | .unknown _ => .Unknown

/-- `OpTab` of 30_encoding.md R63 and R65: the pair (operation, addressing mode) of an opcode byte. -/
def opTab (b : Byte) : Operation × AddressingMode := ((decode b).operation, (decode b).mode)

/-- `Len`, the dispatcher of 30_encoding.md R61: the instruction length in bytes, opcode included. -/
def AddressingMode.len : AddressingMode → Nat
  | .Accumulator => 1
  | .Implied => 1
  | .Immediate => 2
  | .Zeropage => 2
  | .ZeropageX => 2
  | .ZeropageY => 2
  | .XIndirect => 2
  | .IndirectY => 2
  | .Relative => 2
  | .Absolute => 3
  | .AbsoluteX => 3
  | .AbsoluteY => 3
  | .Indirect => 3
  | .Unknown => 1

/-- The three instruction formats of 30_encoding.md R62. -/
inductive Format where
  | F1 | F2 | F3
  deriving DecidableEq, Repr

/-- The format of a record is the one of its addressing mode (30_encoding.md R62). -/
def AddressingMode.format : AddressingMode → Format
  | .Accumulator | .Implied | .Unknown => .F1
  | .Immediate | .Zeropage | .ZeropageX | .ZeropageY | .XIndirect | .IndirectY | .Relative => .F2
  | .Absolute | .AbsoluteX | .AbsoluteY | .Indirect => .F3

/-- The length of the instruction an opcode byte starts, known from that byte alone (30_encoding.md R67). -/
def opcodeLen (b : Byte) : Nat := (opTab b).2.len

/-- Why a list of bytes holds no instruction: it is empty. Every non-empty list decodes (30_encoding.md R65). -/
inductive DecodeError where
  | noByte
  deriving DecidableEq, Repr

/-- The decoder on bytes: the first byte is the opcode (30_encoding.md R60), the rest is left as it stands (R104). -/
def decodeBytes : List Byte → Except DecodeError (Instr × List Byte)
  | [] => .error .noByte
  | b :: rest => .ok (decode b, rest)

-- The encoder.

/-- The opcode byte of an instruction: the table "by mnemonic" of 30_encoding.md R63. -/
def Instr.opcode : Instr → Byte
  | .adcXInd => 0x61
  | .adcZp => 0x65
  | .adcImm => 0x69
  | .adcAbs => 0x6D
  | .adcIndY => 0x71
  | .adcZpX => 0x75
  | .adcAbsY => 0x79
  | .adcAbsX => 0x7D
  | .andXInd => 0x21
  | .andZp => 0x25
  | .andImm => 0x29
  | .andAbs => 0x2D
  | .andIndY => 0x31
  | .andZpX => 0x35
  | .andAbsY => 0x39
  | .andAbsX => 0x3D
  | .aslZp => 0x06
  | .aslA => 0x0A
  | .aslAbs => 0x0E
  | .aslZpX => 0x16
  | .aslAbsX => 0x1E
  | .bcc => 0x90
  | .bcs => 0xB0
  | .beq => 0xF0
  | .bitZp => 0x24
  | .bitAbs => 0x2C
  | .bmi => 0x30
  | .bne => 0xD0
  | .bpl => 0x10
  | .brk => 0x00
  | .bvc => 0x50
  | .bvs => 0x70
  | .clc => 0x18
  | .cld => 0xD8
  | .cli => 0x58
  | .clv => 0xB8
  | .cmpXInd => 0xC1
  | .cmpZp => 0xC5
  | .cmpImm => 0xC9
  | .cmpAbs => 0xCD
  | .cmpIndY => 0xD1
  | .cmpZpX => 0xD5
  | .cmpAbsY => 0xD9
  | .cmpAbsX => 0xDD
  | .cpxImm => 0xE0
  | .cpxZp => 0xE4
  | .cpxAbs => 0xEC
  | .cpyImm => 0xC0
  | .cpyZp => 0xC4
  | .cpyAbs => 0xCC
  | .decZp => 0xC6
  | .decAbs => 0xCE
  | .decZpX => 0xD6
  | .decAbsX => 0xDE
  | .dex => 0xCA
  | .dey => 0x88
  | .eorXInd => 0x41
  | .eorZp => 0x45
  | .eorImm => 0x49
  | .eorAbs => 0x4D
  | .eorIndY => 0x51
  | .eorZpX => 0x55
  | .eorAbsY => 0x59
  | .eorAbsX => 0x5D
  | .incZp => 0xE6
  | .incAbs => 0xEE
  | .incZpX => 0xF6
  | .incAbsX => 0xFE
  | .inx => 0xE8
  | .iny => 0xC8
  | .jmpAbs => 0x4C
  | .jmpInd => 0x6C
  | .jsrAbs => 0x20
  | .ldaXInd => 0xA1
  | .ldaZp => 0xA5
  | .ldaImm => 0xA9
  | .ldaAbs => 0xAD
  | .ldaIndY => 0xB1
  | .ldaZpX => 0xB5
  | .ldaAbsY => 0xB9
  | .ldaAbsX => 0xBD
  | .ldxImm => 0xA2
  | .ldxZp => 0xA6
  | .ldxAbs => 0xAE
  | .ldxZpY => 0xB6
  | .ldxAbsY => 0xBE
  | .ldyImm => 0xA0
  | .ldyZp => 0xA4
  | .ldyAbs => 0xAC
  | .ldyZpX => 0xB4
  | .ldyAbsX => 0xBC
  | .lsrZp => 0x46
  | .lsrA => 0x4A
  | .lsrAbs => 0x4E
  | .lsrZpX => 0x56
  | .lsrAbsX => 0x5E
  | .nop => 0xEA
  | .oraXInd => 0x01
  | .oraZp => 0x05
  | .oraImm => 0x09
  | .oraAbs => 0x0D
  | .oraIndY => 0x11
  | .oraZpX => 0x15
  | .oraAbsY => 0x19
  | .oraAbsX => 0x1D
  | .pha => 0x48
  | .php => 0x08
  | .pla => 0x68
  | .plp => 0x28
  | .rolZp => 0x26
  | .rolA => 0x2A
  | .rolAbs => 0x2E
  | .rolZpX => 0x36
  | .rolAbsX => 0x3E
  | .rorZp => 0x66
  | .rorA => 0x6A
  | .rorAbs => 0x6E
  | .rorZpX => 0x76
  | .rorAbsX => 0x7E
  | .rti => 0x40
  | .rts => 0x60
  | .sbcXInd => 0xE1
  | .sbcZp => 0xE5
  | .sbcImm => 0xE9
  | .sbcAbs => 0xED
  | .sbcIndY => 0xF1
  | .sbcZpX => 0xF5
  | .sbcAbsY => 0xF9
  | .sbcAbsX => 0xFD
  | .sec => 0x38
  | .sed => 0xF8
  | .sei => 0x78
  | .staXInd => 0x81
  | .staZp => 0x85
  | .staAbs => 0x8D
  | .staIndY => 0x91
  | .staZpX => 0x95
  | .staAbsY => 0x99
  | .staAbsX => 0x9D
  | .stxZp => 0x86
  | .stxAbs => 0x8E
  | .stxZpY => 0x96
  | .styZp => 0x84
  | .styAbs => 0x8C
  | .styZpX => 0x94
  | .tax => 0xAA
  | .tay => 0xA8
  | .tsx => 0xBA
  | .txa => 0x8A
  | .txs => 0x9A
  | .tya => 0x98
  | .unknown b => b

/-- The encoder: an instruction is selected by its opcode byte, the whole first byte (30_encoding.md R60). -/
def encode (i : Instr) : List Byte := [i.opcode]

/-- The bytes of a whole instruction: its opcode and its operand bytes in stream order (30_encoding.md R62, 20_memory.md
R42). -/
def encodeWith (i : Instr) (operands : List Byte) : List Byte := encode i ++ operands

/-- Byte `k` of a word numbered as spec/opcode_table.json numbers it: byte 0 is the first byte, bits 7..0. -/
def wordByte (w k : Nat) : Byte := BitVec.ofNat 8 (w / 2 ^ (8 * k))

/-- The bytes, in stream order, of an instruction given as the low `nbits` bits of `w`: every bit above is 0, up to the
longest instruction (three bytes, 00_scope.md R5 MAX_LEN). -/
def tableWordBytes (nbits w : Nat) : List Byte :=
  (List.range (max 3 ((nbits + 7) / 8))).map (wordByte (w % 2 ^ nbits))

/-- The instruction the decoder reads from the bits `w` of one row of spec/opcode_table.json. -/
def decodeTableWord (nbits w : Nat) : Option Instr :=
  match decodeBytes (tableWordBytes nbits w) with
  | .ok (i, _) => some i
  | .error .noByte => none

end Sys2Proof
end

