-- ==== Sys2Proof/Machine/State.lean ====
section
/-! DEFINITION. The state of the ISP (10_state.md), the host's events (40_parser.md R100), and the state after reset. -/

namespace Sys2Proof.Machine

/-- An Instruction record (10_state.md R24). `rawBytes[0]` is the opcode byte, the rest are operand bytes in the order they
arrived. -/
structure Record where
  /-- The byte position in the input where the instruction begins. -/
  offset : Nat
  /-- Written only when the record is created. -/
  operation : Operation
  /-- Written only when the record is created. -/
  addressMode : AddressingMode
  /-- The consumed bytes of the instruction, oldest first. -/
  rawBytes : List Byte
  deriving DecidableEq, Repr

/-- What the host sends: one event per step (40_parser.md R100). -/
inductive Event where
  /-- `Byte(b)`: the next byte of the input stream. -/
  | byte (b : Byte)
  /-- `End`: the end of the input. -/
  | endInput
  /-- `Reset` (70_reset_and_hazards.md R320). -/
  | reset
  deriving DecidableEq, Repr

/-- The two values of `phase` (10_state.md R22). -/
inductive Phase where
  | IDLE | ACC
  deriving DecidableEq, Repr

/-- `phase` together with `cur` and `need`, which hold a value in `ACC` only (10_state.md R22, R23, R24, R33). -/
inductive Control where
  /-- `IDLE`: no instruction in progress; `cur` and `need` hold no value. -/
  | idle
  /-- `ACC`: the record `cur` is in progress and needs `need` more bytes. -/
  | acc (cur : Record) (need : Nat)
  deriving DecidableEq, Repr

/-- The whole state: the spec's `(phase, pos, need, cur, out)`, the outputs of the step just taken, and the events the host
has handed over. -/
structure State where
  /-- `phase`, `cur` and `need` (10_state.md R22 to R24, R33). -/
  control : Control
  /-- The position counter: how many bytes of this invocation are consumed; it never wraps (10_state.md R21). -/
  pos : Nat
  /-- The records emitted so far in this invocation, oldest first (10_state.md R27). -/
  out : List Record
  /-- The record bus: `some r` when `rec_valid` is 1 with `r` on the bus, for the step just taken (40_parser.md R113). -/
  bus : Option Record
  /-- `some rs` when `done` is 1: the result that the `End` step just taken returned (40_parser.md R100, R106, R107, R113). -/
  result : Option (List Record)
  /-- The model's own field: the host's events not yet processed, oldest first (20_memory.md R41, R48). Log entry 1. -/
  input : List Event
  deriving DecidableEq, Repr

/-- Reasons to stop with a fault. There are none: no event, in any state, faults or traps (60_exceptions.md R300, R306). -/
inductive Fault where
  deriving DecidableEq, Repr

/-- Reasons to refuse a step. -/
inductive Refusal where
  /-- The instruction has no meaning yet. Raised by no arm of `exec`; safe. -/
  | notModelled (mnemonic : String)
  /-- Raised by `stepWith (some w)` alone, for a `Byte` event when `pos = 2^w - 1`: an implementation with finite
  `OFFSET_BITS` has no step there (60_exceptions.md R306). The spec's own machine, `step`, never raises it. Safe. -/
  | offsetExhausted
  deriving DecidableEq, Repr

/-- `phase` (10_state.md R22). -/
def State.phase (s : State) : Phase :=
  match s.control with
  | .idle => .IDLE
  | .acc _ _ => .ACC

/-- `cur`: no value in `IDLE` (10_state.md R24, R33). -/
def State.cur (s : State) : Option Record :=
  match s.control with
  | .idle => none
  | .acc cur _ => some cur

/-- `need`: no value in `IDLE` (10_state.md R23, R33). -/
def State.need (s : State) : Option Nat :=
  match s.control with
  | .idle => none
  | .acc _ need => some need

/-- The state after reset and at power-on (10_state.md R32, 70_reset_and_hazards.md R320, R322): `IDLE`, `pos = 0`, `need`
and `cur` without a value, `out` empty; no record and no result put out, and no event handed over. -/
def State.reset : State where
  control := .idle
  pos := 0
  out := []
  bus := none
  result := none
  input := []

end Sys2Proof.Machine
end

