-- ==== Sys2Proof/Machine/Flags.lean ====
section
/-! DEFINITION. The one-bit conditions of the ISP. It has no status flags or condition codes (10_state.md R29): the only
one-bit values are `satisfied` of a record and the outputs `rec_valid` and `done`. -/

namespace Sys2Proof.Machine

/-- `length(r)`: the length of the record's addressing mode (10_state.md R25). -/
def Record.len (r : Record) : Nat := r.addressMode.len

/-- `satisfied(r)`: the record has all its bytes (10_state.md R25). -/
def Record.satisfied (r : Record) : Bool := r.rawBytes.length == r.len

/-- `rec_valid`: 1 on exactly the steps that emit a record (40_parser.md R113). -/
def State.recValid (s : State) : Bool := s.bus.isSome

/-- `done`: 1 on the step of an `End` event (40_parser.md R113). -/
def State.done (s : State) : Bool := s.result.isSome

end Sys2Proof.Machine
end

