-- ==== Sys2Proof/Machine/Ops.lean ====
section
/-! DEFINITION. The ISP's own operations (40_parser.md, 70_reset_and_hazards.md): what each event does to the state.

There is no operation for taking an exception or returning from one: the ISP has no exception, interrupt or trap, saves
nothing and has no mode to change (60_exceptions.md R300 to R303). -/

namespace Sys2Proof.Machine

/-- `Emit(r)`: append the record to `out`, and put it on the record bus for this step (00_scope.md R8, 40_parser.md R105,
R113). -/
def emit (r : Record) (s : State) : State := { s with out := s.out ++ [r], bus := some r }

/-- The record that an opcode byte starts at position `pos` (40_parser.md R102). -/
def newRecord (pos : Nat) (op : Operation) (mode : AddressingMode) (b : Byte) : Record where
  offset := pos
  operation := op
  addressMode := mode
  rawBytes := [b]

/-- A record with one more byte: only `raw_bytes` changes (40_parser.md R103). -/
def Record.append (r : Record) (b : Byte) : Record := { r with rawBytes := r.rawBytes ++ [b] }

/-- `Byte(b)` when `phase = IDLE`: start a new record with `(op, mode)` (40_parser.md R102). -/
def startRecord (op : Operation) (mode : AddressingMode) (b : Byte) (s : State) : State :=
  let r := newRecord s.pos op mode b
  let s' := { s with pos := s.pos + 1 }
  if mode.len = 1 then emit r s' else { s' with control := .acc r (mode.len - 1) }

/-- `Byte(b)` when `phase = ACC`: append an operand byte to `cur`, which needs `need` more (40_parser.md R103). The byte is
never looked up in the opcode table (R104). -/
def appendOperand (cur : Record) (need : Nat) (b : Byte) (s : State) : State :=
  let r := cur.append b
  let s' := { s with pos := s.pos + 1 }
  if need = 1 then emit r { s' with control := .idle } else { s' with control := .acc r 1 }

/-- The `Byte(b)` event where `b` is the opcode of the row `(op, mode)`. In `IDLE` it starts that row's record (40_parser.md
R102). In `ACC` the byte is an operand byte like any other (R103 (a), R104), log entry 3. -/
def opcodeEvent (op : Operation) (mode : AddressingMode) (b : Byte) (s : State) : State :=
  match s.control with
  | .idle => startRecord op mode b s
  | .acc cur need => appendOperand cur need b s

/-- What every meaning does: process the `Byte` event of its opcode. It always answers a next state (40_parser.md R100,
60_exceptions.md R300). -/
def runOpcode (op : Operation) (mode : AddressingMode) (b : Byte) (s : State) : Host.Outcome State Fault Refusal :=
  .next (opcodeEvent op mode b s)

/-- The `Byte(b)` event of a machine with the opcode table `tab` (93_implementation_defined.md U9: the table is a parameter). -/
def byteEventWith (tab : Byte → Operation × AddressingMode) (b : Byte) (s : State) : State :=
  opcodeEvent (tab b).1 (tab b).2 b s

/-- `out`, and after it the record in progress if there is one. -/
def State.records (s : State) : List Record :=
  match s.control with
  | .idle => s.out
  | .acc cur _ => s.out ++ [cur]

/-- `End`: return the result and go to the reset state (40_parser.md R106 in `ACC`, R107 in `IDLE`, R108). In `ACC` the
unsatisfied record is emitted first. -/
def endEvent (s : State) : State :=
  { s with control := .idle, pos := 0, out := [], bus := s.cur, result := some s.records }

/-- `Reset`, in any phase: the reset state, with no result returned and no record emitted (70_reset_and_hazards.md R320,
R321). The host's later events are still to come. -/
def resetEvent (s : State) : State :=
  { s with control := .idle, pos := 0, out := [], bus := none, result := none }

/-- The state in which a step processes its event: the event is taken off the host's list, and the outputs of the step
before, valid for one step, are gone (40_parser.md R113). -/
def State.fetched (s : State) (rest : List Event) : State :=
  { s with input := rest, bus := none, result := none }

/-- Between events the ISP holds its state (60_exceptions.md R312), and puts out nothing. -/
def holdState (s : State) : State := { s with bus := none, result := none }

/-- Whether a `Byte` event finds the position counter at its last value, `pos = 2^W - 1` for `OFFSET_BITS = W`
(60_exceptions.md R306); never for an unbounded one. -/
def posExhausted (offsetBits : Option Nat) (s : State) : Bool :=
  match offsetBits with
  | none => false
  | some w => s.pos == 2 ^ w - 1

/-- The bytes of one whole instruction, opcode and operand bytes, at the front of `bytes`. -/
def instrBytes (bytes : List Byte) : List Byte :=
  match bytes with
  | [] => []
  | b :: _ => bytes.take (opcodeLen b)

/-- The state in which the next step fetches its opcode from `bytes`: the ISP is `IDLE` and the host's next events are the
bytes of that instruction (log entry 11). -/
def placeBytes (s : State) (bytes : List Byte) : State :=
  { s with control := .idle, input := (instrBytes bytes).map .byte ++ s.input }

end Sys2Proof.Machine
end

