-- ==== Sys2Proof/Machine/ArithLogic.lean ====
section
/-! DEFINITION. The meanings of the family of 43_arith_logic_shift.md: arithmetic, logic, compare, increment, decrement and shift. Each rule says: on `Byte(b)` with `phase = IDLE`, apply
40_parser.md R102 with the row's operation and mode. No rule writes a flag, raises an exception or checks a privilege. -/

namespace Sys2Proof.Machine

/-- ADC, XIndirect form: opcode `61` (43_arith_logic_shift.md R180). -/
def execAdcXInd (s : State) : Host.Outcome State Fault Refusal := runOpcode .ADC .XIndirect 0x61 s

/-- ADC, Zeropage form: opcode `65` (43_arith_logic_shift.md R180). -/
def execAdcZp (s : State) : Host.Outcome State Fault Refusal := runOpcode .ADC .Zeropage 0x65 s

/-- ADC, Immediate form: opcode `69` (43_arith_logic_shift.md R180). -/
def execAdcImm (s : State) : Host.Outcome State Fault Refusal := runOpcode .ADC .Immediate 0x69 s

/-- ADC, Absolute form: opcode `6D` (43_arith_logic_shift.md R180). -/
def execAdcAbs (s : State) : Host.Outcome State Fault Refusal := runOpcode .ADC .Absolute 0x6D s

/-- ADC, IndirectY form: opcode `71` (43_arith_logic_shift.md R180). -/
def execAdcIndY (s : State) : Host.Outcome State Fault Refusal := runOpcode .ADC .IndirectY 0x71 s

/-- ADC, ZeropageX form: opcode `75` (43_arith_logic_shift.md R180). -/
def execAdcZpX (s : State) : Host.Outcome State Fault Refusal := runOpcode .ADC .ZeropageX 0x75 s

/-- ADC, AbsoluteY form: opcode `79` (43_arith_logic_shift.md R180). -/
def execAdcAbsY (s : State) : Host.Outcome State Fault Refusal := runOpcode .ADC .AbsoluteY 0x79 s

/-- ADC, AbsoluteX form: opcode `7D` (43_arith_logic_shift.md R180). -/
def execAdcAbsX (s : State) : Host.Outcome State Fault Refusal := runOpcode .ADC .AbsoluteX 0x7D s

/-- SBC, XIndirect form: opcode `E1` (43_arith_logic_shift.md R181). -/
def execSbcXInd (s : State) : Host.Outcome State Fault Refusal := runOpcode .SBC .XIndirect 0xE1 s

/-- SBC, Zeropage form: opcode `E5` (43_arith_logic_shift.md R181). -/
def execSbcZp (s : State) : Host.Outcome State Fault Refusal := runOpcode .SBC .Zeropage 0xE5 s

/-- SBC, Immediate form: opcode `E9` (43_arith_logic_shift.md R181). -/
def execSbcImm (s : State) : Host.Outcome State Fault Refusal := runOpcode .SBC .Immediate 0xE9 s

/-- SBC, Absolute form: opcode `ED` (43_arith_logic_shift.md R181). -/
def execSbcAbs (s : State) : Host.Outcome State Fault Refusal := runOpcode .SBC .Absolute 0xED s

/-- SBC, IndirectY form: opcode `F1` (43_arith_logic_shift.md R181). -/
def execSbcIndY (s : State) : Host.Outcome State Fault Refusal := runOpcode .SBC .IndirectY 0xF1 s

/-- SBC, ZeropageX form: opcode `F5` (43_arith_logic_shift.md R181). -/
def execSbcZpX (s : State) : Host.Outcome State Fault Refusal := runOpcode .SBC .ZeropageX 0xF5 s

/-- SBC, AbsoluteY form: opcode `F9` (43_arith_logic_shift.md R181). -/
def execSbcAbsY (s : State) : Host.Outcome State Fault Refusal := runOpcode .SBC .AbsoluteY 0xF9 s

/-- SBC, AbsoluteX form: opcode `FD` (43_arith_logic_shift.md R181). -/
def execSbcAbsX (s : State) : Host.Outcome State Fault Refusal := runOpcode .SBC .AbsoluteX 0xFD s

/-- AND, XIndirect form: opcode `21` (43_arith_logic_shift.md R182). -/
def execAndXInd (s : State) : Host.Outcome State Fault Refusal := runOpcode .AND .XIndirect 0x21 s

/-- AND, Zeropage form: opcode `25` (43_arith_logic_shift.md R182). -/
def execAndZp (s : State) : Host.Outcome State Fault Refusal := runOpcode .AND .Zeropage 0x25 s

/-- AND, Immediate form: opcode `29` (43_arith_logic_shift.md R182). -/
def execAndImm (s : State) : Host.Outcome State Fault Refusal := runOpcode .AND .Immediate 0x29 s

/-- AND, Absolute form: opcode `2D` (43_arith_logic_shift.md R182). -/
def execAndAbs (s : State) : Host.Outcome State Fault Refusal := runOpcode .AND .Absolute 0x2D s

/-- AND, IndirectY form: opcode `31` (43_arith_logic_shift.md R182). -/
def execAndIndY (s : State) : Host.Outcome State Fault Refusal := runOpcode .AND .IndirectY 0x31 s

/-- AND, ZeropageX form: opcode `35` (43_arith_logic_shift.md R182). -/
def execAndZpX (s : State) : Host.Outcome State Fault Refusal := runOpcode .AND .ZeropageX 0x35 s

/-- AND, AbsoluteY form: opcode `39` (43_arith_logic_shift.md R182). -/
def execAndAbsY (s : State) : Host.Outcome State Fault Refusal := runOpcode .AND .AbsoluteY 0x39 s

/-- AND, AbsoluteX form: opcode `3D` (43_arith_logic_shift.md R182). -/
def execAndAbsX (s : State) : Host.Outcome State Fault Refusal := runOpcode .AND .AbsoluteX 0x3D s

/-- EOR, XIndirect form: opcode `41` (43_arith_logic_shift.md R183). -/
def execEorXInd (s : State) : Host.Outcome State Fault Refusal := runOpcode .EOR .XIndirect 0x41 s

/-- EOR, Zeropage form: opcode `45` (43_arith_logic_shift.md R183). -/
def execEorZp (s : State) : Host.Outcome State Fault Refusal := runOpcode .EOR .Zeropage 0x45 s

/-- EOR, Immediate form: opcode `49` (43_arith_logic_shift.md R183). -/
def execEorImm (s : State) : Host.Outcome State Fault Refusal := runOpcode .EOR .Immediate 0x49 s

/-- EOR, Absolute form: opcode `4D` (43_arith_logic_shift.md R183). -/
def execEorAbs (s : State) : Host.Outcome State Fault Refusal := runOpcode .EOR .Absolute 0x4D s

/-- EOR, IndirectY form: opcode `51` (43_arith_logic_shift.md R183). -/
def execEorIndY (s : State) : Host.Outcome State Fault Refusal := runOpcode .EOR .IndirectY 0x51 s

/-- EOR, ZeropageX form: opcode `55` (43_arith_logic_shift.md R183). -/
def execEorZpX (s : State) : Host.Outcome State Fault Refusal := runOpcode .EOR .ZeropageX 0x55 s

/-- EOR, AbsoluteY form: opcode `59` (43_arith_logic_shift.md R183). -/
def execEorAbsY (s : State) : Host.Outcome State Fault Refusal := runOpcode .EOR .AbsoluteY 0x59 s

/-- EOR, AbsoluteX form: opcode `5D` (43_arith_logic_shift.md R183). -/
def execEorAbsX (s : State) : Host.Outcome State Fault Refusal := runOpcode .EOR .AbsoluteX 0x5D s

/-- ORA, XIndirect form: opcode `01` (43_arith_logic_shift.md R184). -/
def execOraXInd (s : State) : Host.Outcome State Fault Refusal := runOpcode .ORA .XIndirect 0x01 s

/-- ORA, Zeropage form: opcode `05` (43_arith_logic_shift.md R184). -/
def execOraZp (s : State) : Host.Outcome State Fault Refusal := runOpcode .ORA .Zeropage 0x05 s

/-- ORA, Immediate form: opcode `09` (43_arith_logic_shift.md R184). -/
def execOraImm (s : State) : Host.Outcome State Fault Refusal := runOpcode .ORA .Immediate 0x09 s

/-- ORA, Absolute form: opcode `0D` (43_arith_logic_shift.md R184). -/
def execOraAbs (s : State) : Host.Outcome State Fault Refusal := runOpcode .ORA .Absolute 0x0D s

/-- ORA, IndirectY form: opcode `11` (43_arith_logic_shift.md R184). -/
def execOraIndY (s : State) : Host.Outcome State Fault Refusal := runOpcode .ORA .IndirectY 0x11 s

/-- ORA, ZeropageX form: opcode `15` (43_arith_logic_shift.md R184). -/
def execOraZpX (s : State) : Host.Outcome State Fault Refusal := runOpcode .ORA .ZeropageX 0x15 s

/-- ORA, AbsoluteY form: opcode `19` (43_arith_logic_shift.md R184). -/
def execOraAbsY (s : State) : Host.Outcome State Fault Refusal := runOpcode .ORA .AbsoluteY 0x19 s

/-- ORA, AbsoluteX form: opcode `1D` (43_arith_logic_shift.md R184). -/
def execOraAbsX (s : State) : Host.Outcome State Fault Refusal := runOpcode .ORA .AbsoluteX 0x1D s

/-- CMP, XIndirect form: opcode `C1` (43_arith_logic_shift.md R185). -/
def execCmpXInd (s : State) : Host.Outcome State Fault Refusal := runOpcode .CMP .XIndirect 0xC1 s

/-- CMP, Zeropage form: opcode `C5` (43_arith_logic_shift.md R185). -/
def execCmpZp (s : State) : Host.Outcome State Fault Refusal := runOpcode .CMP .Zeropage 0xC5 s

/-- CMP, Immediate form: opcode `C9` (43_arith_logic_shift.md R185). -/
def execCmpImm (s : State) : Host.Outcome State Fault Refusal := runOpcode .CMP .Immediate 0xC9 s

/-- CMP, Absolute form: opcode `CD` (43_arith_logic_shift.md R185). -/
def execCmpAbs (s : State) : Host.Outcome State Fault Refusal := runOpcode .CMP .Absolute 0xCD s

/-- CMP, IndirectY form: opcode `D1` (43_arith_logic_shift.md R185). -/
def execCmpIndY (s : State) : Host.Outcome State Fault Refusal := runOpcode .CMP .IndirectY 0xD1 s

/-- CMP, ZeropageX form: opcode `D5` (43_arith_logic_shift.md R185). -/
def execCmpZpX (s : State) : Host.Outcome State Fault Refusal := runOpcode .CMP .ZeropageX 0xD5 s

/-- CMP, AbsoluteY form: opcode `D9` (43_arith_logic_shift.md R185). -/
def execCmpAbsY (s : State) : Host.Outcome State Fault Refusal := runOpcode .CMP .AbsoluteY 0xD9 s

/-- CMP, AbsoluteX form: opcode `DD` (43_arith_logic_shift.md R185). -/
def execCmpAbsX (s : State) : Host.Outcome State Fault Refusal := runOpcode .CMP .AbsoluteX 0xDD s

/-- CPX, Immediate form: opcode `E0` (43_arith_logic_shift.md R186). -/
def execCpxImm (s : State) : Host.Outcome State Fault Refusal := runOpcode .CPX .Immediate 0xE0 s

/-- CPX, Zeropage form: opcode `E4` (43_arith_logic_shift.md R186). -/
def execCpxZp (s : State) : Host.Outcome State Fault Refusal := runOpcode .CPX .Zeropage 0xE4 s

/-- CPX, Absolute form: opcode `EC` (43_arith_logic_shift.md R186). -/
def execCpxAbs (s : State) : Host.Outcome State Fault Refusal := runOpcode .CPX .Absolute 0xEC s

/-- CPY, Immediate form: opcode `C0` (43_arith_logic_shift.md R187). -/
def execCpyImm (s : State) : Host.Outcome State Fault Refusal := runOpcode .CPY .Immediate 0xC0 s

/-- CPY, Zeropage form: opcode `C4` (43_arith_logic_shift.md R187). -/
def execCpyZp (s : State) : Host.Outcome State Fault Refusal := runOpcode .CPY .Zeropage 0xC4 s

/-- CPY, Absolute form: opcode `CC` (43_arith_logic_shift.md R187). -/
def execCpyAbs (s : State) : Host.Outcome State Fault Refusal := runOpcode .CPY .Absolute 0xCC s

/-- BIT, Zeropage form: opcode `24` (43_arith_logic_shift.md R188). -/
def execBitZp (s : State) : Host.Outcome State Fault Refusal := runOpcode .BIT .Zeropage 0x24 s

/-- BIT, Absolute form: opcode `2C` (43_arith_logic_shift.md R188). -/
def execBitAbs (s : State) : Host.Outcome State Fault Refusal := runOpcode .BIT .Absolute 0x2C s

/-- INC, Zeropage form: opcode `E6` (43_arith_logic_shift.md R189). -/
def execIncZp (s : State) : Host.Outcome State Fault Refusal := runOpcode .INC .Zeropage 0xE6 s

/-- INC, Absolute form: opcode `EE` (43_arith_logic_shift.md R189). -/
def execIncAbs (s : State) : Host.Outcome State Fault Refusal := runOpcode .INC .Absolute 0xEE s

/-- INC, ZeropageX form: opcode `F6` (43_arith_logic_shift.md R189). -/
def execIncZpX (s : State) : Host.Outcome State Fault Refusal := runOpcode .INC .ZeropageX 0xF6 s

/-- INC, AbsoluteX form: opcode `FE` (43_arith_logic_shift.md R189). -/
def execIncAbsX (s : State) : Host.Outcome State Fault Refusal := runOpcode .INC .AbsoluteX 0xFE s

/-- DEC, Zeropage form: opcode `C6` (43_arith_logic_shift.md R190). -/
def execDecZp (s : State) : Host.Outcome State Fault Refusal := runOpcode .DEC .Zeropage 0xC6 s

/-- DEC, Absolute form: opcode `CE` (43_arith_logic_shift.md R190). -/
def execDecAbs (s : State) : Host.Outcome State Fault Refusal := runOpcode .DEC .Absolute 0xCE s

/-- DEC, ZeropageX form: opcode `D6` (43_arith_logic_shift.md R190). -/
def execDecZpX (s : State) : Host.Outcome State Fault Refusal := runOpcode .DEC .ZeropageX 0xD6 s

/-- DEC, AbsoluteX form: opcode `DE` (43_arith_logic_shift.md R190). -/
def execDecAbsX (s : State) : Host.Outcome State Fault Refusal := runOpcode .DEC .AbsoluteX 0xDE s

/-- INX, Implied form: opcode `E8` (43_arith_logic_shift.md R191). -/
def execInx (s : State) : Host.Outcome State Fault Refusal := runOpcode .INX .Implied 0xE8 s

/-- INY, Implied form: opcode `C8` (43_arith_logic_shift.md R192). -/
def execIny (s : State) : Host.Outcome State Fault Refusal := runOpcode .INY .Implied 0xC8 s

/-- DEX, Implied form: opcode `CA` (43_arith_logic_shift.md R193). -/
def execDex (s : State) : Host.Outcome State Fault Refusal := runOpcode .DEX .Implied 0xCA s

/-- DEY, Implied form: opcode `88` (43_arith_logic_shift.md R194). -/
def execDey (s : State) : Host.Outcome State Fault Refusal := runOpcode .DEY .Implied 0x88 s

/-- ASL, Zeropage form: opcode `06` (43_arith_logic_shift.md R195). -/
def execAslZp (s : State) : Host.Outcome State Fault Refusal := runOpcode .ASL .Zeropage 0x06 s

/-- ASL, Accumulator form: opcode `0A` (43_arith_logic_shift.md R195). -/
def execAslA (s : State) : Host.Outcome State Fault Refusal := runOpcode .ASL .Accumulator 0x0A s

/-- ASL, Absolute form: opcode `0E` (43_arith_logic_shift.md R195). -/
def execAslAbs (s : State) : Host.Outcome State Fault Refusal := runOpcode .ASL .Absolute 0x0E s

/-- ASL, ZeropageX form: opcode `16` (43_arith_logic_shift.md R195). -/
def execAslZpX (s : State) : Host.Outcome State Fault Refusal := runOpcode .ASL .ZeropageX 0x16 s

/-- ASL, AbsoluteX form: opcode `1E` (43_arith_logic_shift.md R195). -/
def execAslAbsX (s : State) : Host.Outcome State Fault Refusal := runOpcode .ASL .AbsoluteX 0x1E s

/-- LSR, Zeropage form: opcode `46` (43_arith_logic_shift.md R196). -/
def execLsrZp (s : State) : Host.Outcome State Fault Refusal := runOpcode .LSR .Zeropage 0x46 s

/-- LSR, Accumulator form: opcode `4A` (43_arith_logic_shift.md R196). -/
def execLsrA (s : State) : Host.Outcome State Fault Refusal := runOpcode .LSR .Accumulator 0x4A s

/-- LSR, Absolute form: opcode `4E` (43_arith_logic_shift.md R196). -/
def execLsrAbs (s : State) : Host.Outcome State Fault Refusal := runOpcode .LSR .Absolute 0x4E s

/-- LSR, ZeropageX form: opcode `56` (43_arith_logic_shift.md R196). -/
def execLsrZpX (s : State) : Host.Outcome State Fault Refusal := runOpcode .LSR .ZeropageX 0x56 s

/-- LSR, AbsoluteX form: opcode `5E` (43_arith_logic_shift.md R196). -/
def execLsrAbsX (s : State) : Host.Outcome State Fault Refusal := runOpcode .LSR .AbsoluteX 0x5E s

/-- ROL, Zeropage form: opcode `26` (43_arith_logic_shift.md R197). -/
def execRolZp (s : State) : Host.Outcome State Fault Refusal := runOpcode .ROL .Zeropage 0x26 s

/-- ROL, Accumulator form: opcode `2A` (43_arith_logic_shift.md R197). -/
def execRolA (s : State) : Host.Outcome State Fault Refusal := runOpcode .ROL .Accumulator 0x2A s

/-- ROL, Absolute form: opcode `2E` (43_arith_logic_shift.md R197). -/
def execRolAbs (s : State) : Host.Outcome State Fault Refusal := runOpcode .ROL .Absolute 0x2E s

/-- ROL, ZeropageX form: opcode `36` (43_arith_logic_shift.md R197). -/
def execRolZpX (s : State) : Host.Outcome State Fault Refusal := runOpcode .ROL .ZeropageX 0x36 s

/-- ROL, AbsoluteX form: opcode `3E` (43_arith_logic_shift.md R197). -/
def execRolAbsX (s : State) : Host.Outcome State Fault Refusal := runOpcode .ROL .AbsoluteX 0x3E s

/-- ROR, Zeropage form: opcode `66` (43_arith_logic_shift.md R198). -/
def execRorZp (s : State) : Host.Outcome State Fault Refusal := runOpcode .ROR .Zeropage 0x66 s

/-- ROR, Accumulator form: opcode `6A` (43_arith_logic_shift.md R198). -/
def execRorA (s : State) : Host.Outcome State Fault Refusal := runOpcode .ROR .Accumulator 0x6A s

/-- ROR, Absolute form: opcode `6E` (43_arith_logic_shift.md R198). -/
def execRorAbs (s : State) : Host.Outcome State Fault Refusal := runOpcode .ROR .Absolute 0x6E s

/-- ROR, ZeropageX form: opcode `76` (43_arith_logic_shift.md R198). -/
def execRorZpX (s : State) : Host.Outcome State Fault Refusal := runOpcode .ROR .ZeropageX 0x76 s

/-- ROR, AbsoluteX form: opcode `7E` (43_arith_logic_shift.md R198). -/
def execRorAbsX (s : State) : Host.Outcome State Fault Refusal := runOpcode .ROR .AbsoluteX 0x7E s

end Sys2Proof.Machine
end

