-- ==== Sys2Proof/Machine/ControlFlow.lean ====
section
/-! DEFINITION. The meanings of the family of 44_control_flow.md: branches, jumps, calls, returns and break. Each rule says: on `Byte(b)` with `phase = IDLE`, apply
40_parser.md R102 with the row's operation and mode. No rule writes a flag, raises an exception or checks a privilege. -/

namespace Sys2Proof.Machine

/-- BCC, Relative form: opcode `90` (44_control_flow.md R210). -/
def execBcc (s : State) : Host.Outcome State Fault Refusal := runOpcode .BCC .Relative 0x90 s

/-- BCS, Relative form: opcode `B0` (44_control_flow.md R211). -/
def execBcs (s : State) : Host.Outcome State Fault Refusal := runOpcode .BCS .Relative 0xB0 s

/-- BEQ, Relative form: opcode `F0` (44_control_flow.md R212). -/
def execBeq (s : State) : Host.Outcome State Fault Refusal := runOpcode .BEQ .Relative 0xF0 s

/-- BMI, Relative form: opcode `30` (44_control_flow.md R213). -/
def execBmi (s : State) : Host.Outcome State Fault Refusal := runOpcode .BMI .Relative 0x30 s

/-- BNE, Relative form: opcode `D0` (44_control_flow.md R214). -/
def execBne (s : State) : Host.Outcome State Fault Refusal := runOpcode .BNE .Relative 0xD0 s

/-- BPL, Relative form: opcode `10` (44_control_flow.md R215). -/
def execBpl (s : State) : Host.Outcome State Fault Refusal := runOpcode .BPL .Relative 0x10 s

/-- BVC, Relative form: opcode `50` (44_control_flow.md R216). -/
def execBvc (s : State) : Host.Outcome State Fault Refusal := runOpcode .BVC .Relative 0x50 s

/-- BVS, Relative form: opcode `70` (44_control_flow.md R217). -/
def execBvs (s : State) : Host.Outcome State Fault Refusal := runOpcode .BVS .Relative 0x70 s

/-- JMP, Absolute form: opcode `4C` (44_control_flow.md R218). -/
def execJmpAbs (s : State) : Host.Outcome State Fault Refusal := runOpcode .JMP .Absolute 0x4C s

/-- JMP, Indirect form: opcode `6C` (44_control_flow.md R218). -/
def execJmpInd (s : State) : Host.Outcome State Fault Refusal := runOpcode .JMP .Indirect 0x6C s

/-- JSR, Absolute form: opcode `20` (44_control_flow.md R219). -/
def execJsrAbs (s : State) : Host.Outcome State Fault Refusal := runOpcode .JSR .Absolute 0x20 s

/-- RTS, Implied form: opcode `60` (44_control_flow.md R220). The ISP keeps no call stack (R220). -/
def execRts (s : State) : Host.Outcome State Fault Refusal := runOpcode .RTS .Implied 0x60 s

/-- RTI, Implied form: opcode `40` (44_control_flow.md R221). It restores nothing and checks no privilege (60_exceptions.md R303). -/
def execRti (s : State) : Host.Outcome State Fault Refusal := runOpcode .RTI .Implied 0x40 s

/-- BRK, Implied form: opcode `00` (44_control_flow.md R222). One byte: the byte after it starts a new record (R222). It takes no trap (60_exceptions.md R300). -/
def execBrk (s : State) : Host.Outcome State Fault Refusal := runOpcode .BRK .Implied 0x00 s

end Sys2Proof.Machine
end

