-- ==== Sys2Proof/Machine/LoadStore.lean ====
section
/-! DEFINITION. The meanings of the family of 42_load_store_transfer.md: load, store and register transfer. Each rule says: on `Byte(b)` with `phase = IDLE`, apply
40_parser.md R102 with the row's operation and mode. No rule writes a flag, raises an exception or checks a privilege. -/

namespace Sys2Proof.Machine

/-- LDA, XIndirect form: opcode `A1` (42_load_store_transfer.md R160). -/
def execLdaXInd (s : State) : Host.Outcome State Fault Refusal := runOpcode .LDA .XIndirect 0xA1 s

/-- LDA, Zeropage form: opcode `A5` (42_load_store_transfer.md R160). -/
def execLdaZp (s : State) : Host.Outcome State Fault Refusal := runOpcode .LDA .Zeropage 0xA5 s

/-- LDA, Immediate form: opcode `A9` (42_load_store_transfer.md R160). -/
def execLdaImm (s : State) : Host.Outcome State Fault Refusal := runOpcode .LDA .Immediate 0xA9 s

/-- LDA, Absolute form: opcode `AD` (42_load_store_transfer.md R160). -/
def execLdaAbs (s : State) : Host.Outcome State Fault Refusal := runOpcode .LDA .Absolute 0xAD s

/-- LDA, IndirectY form: opcode `B1` (42_load_store_transfer.md R160). -/
def execLdaIndY (s : State) : Host.Outcome State Fault Refusal := runOpcode .LDA .IndirectY 0xB1 s

/-- LDA, ZeropageX form: opcode `B5` (42_load_store_transfer.md R160). -/
def execLdaZpX (s : State) : Host.Outcome State Fault Refusal := runOpcode .LDA .ZeropageX 0xB5 s

/-- LDA, AbsoluteY form: opcode `B9` (42_load_store_transfer.md R160). -/
def execLdaAbsY (s : State) : Host.Outcome State Fault Refusal := runOpcode .LDA .AbsoluteY 0xB9 s

/-- LDA, AbsoluteX form: opcode `BD` (42_load_store_transfer.md R160). -/
def execLdaAbsX (s : State) : Host.Outcome State Fault Refusal := runOpcode .LDA .AbsoluteX 0xBD s

/-- LDX, Immediate form: opcode `A2` (42_load_store_transfer.md R161). -/
def execLdxImm (s : State) : Host.Outcome State Fault Refusal := runOpcode .LDX .Immediate 0xA2 s

/-- LDX, Zeropage form: opcode `A6` (42_load_store_transfer.md R161). -/
def execLdxZp (s : State) : Host.Outcome State Fault Refusal := runOpcode .LDX .Zeropage 0xA6 s

/-- LDX, Absolute form: opcode `AE` (42_load_store_transfer.md R161). -/
def execLdxAbs (s : State) : Host.Outcome State Fault Refusal := runOpcode .LDX .Absolute 0xAE s

/-- LDX, ZeropageY form: opcode `B6` (42_load_store_transfer.md R161). -/
def execLdxZpY (s : State) : Host.Outcome State Fault Refusal := runOpcode .LDX .ZeropageY 0xB6 s

/-- LDX, AbsoluteY form: opcode `BE` (42_load_store_transfer.md R161). -/
def execLdxAbsY (s : State) : Host.Outcome State Fault Refusal := runOpcode .LDX .AbsoluteY 0xBE s

/-- LDY, Immediate form: opcode `A0` (42_load_store_transfer.md R162). -/
def execLdyImm (s : State) : Host.Outcome State Fault Refusal := runOpcode .LDY .Immediate 0xA0 s

/-- LDY, Zeropage form: opcode `A4` (42_load_store_transfer.md R162). -/
def execLdyZp (s : State) : Host.Outcome State Fault Refusal := runOpcode .LDY .Zeropage 0xA4 s

/-- LDY, Absolute form: opcode `AC` (42_load_store_transfer.md R162). -/
def execLdyAbs (s : State) : Host.Outcome State Fault Refusal := runOpcode .LDY .Absolute 0xAC s

/-- LDY, ZeropageX form: opcode `B4` (42_load_store_transfer.md R162). -/
def execLdyZpX (s : State) : Host.Outcome State Fault Refusal := runOpcode .LDY .ZeropageX 0xB4 s

/-- LDY, AbsoluteX form: opcode `BC` (42_load_store_transfer.md R162). -/
def execLdyAbsX (s : State) : Host.Outcome State Fault Refusal := runOpcode .LDY .AbsoluteX 0xBC s

/-- STA, XIndirect form: opcode `81` (42_load_store_transfer.md R163). -/
def execStaXInd (s : State) : Host.Outcome State Fault Refusal := runOpcode .STA .XIndirect 0x81 s

/-- STA, Zeropage form: opcode `85` (42_load_store_transfer.md R163). -/
def execStaZp (s : State) : Host.Outcome State Fault Refusal := runOpcode .STA .Zeropage 0x85 s

/-- STA, Absolute form: opcode `8D` (42_load_store_transfer.md R163). -/
def execStaAbs (s : State) : Host.Outcome State Fault Refusal := runOpcode .STA .Absolute 0x8D s

/-- STA, IndirectY form: opcode `91` (42_load_store_transfer.md R163). -/
def execStaIndY (s : State) : Host.Outcome State Fault Refusal := runOpcode .STA .IndirectY 0x91 s

/-- STA, ZeropageX form: opcode `95` (42_load_store_transfer.md R163). -/
def execStaZpX (s : State) : Host.Outcome State Fault Refusal := runOpcode .STA .ZeropageX 0x95 s

/-- STA, AbsoluteY form: opcode `99` (42_load_store_transfer.md R163). -/
def execStaAbsY (s : State) : Host.Outcome State Fault Refusal := runOpcode .STA .AbsoluteY 0x99 s

/-- STA, AbsoluteX form: opcode `9D` (42_load_store_transfer.md R163). -/
def execStaAbsX (s : State) : Host.Outcome State Fault Refusal := runOpcode .STA .AbsoluteX 0x9D s

/-- STX, Zeropage form: opcode `86` (42_load_store_transfer.md R164). -/
def execStxZp (s : State) : Host.Outcome State Fault Refusal := runOpcode .STX .Zeropage 0x86 s

/-- STX, Absolute form: opcode `8E` (42_load_store_transfer.md R164). -/
def execStxAbs (s : State) : Host.Outcome State Fault Refusal := runOpcode .STX .Absolute 0x8E s

/-- STX, ZeropageY form: opcode `96` (42_load_store_transfer.md R164). -/
def execStxZpY (s : State) : Host.Outcome State Fault Refusal := runOpcode .STX .ZeropageY 0x96 s

/-- STY, Zeropage form: opcode `84` (42_load_store_transfer.md R165). -/
def execStyZp (s : State) : Host.Outcome State Fault Refusal := runOpcode .STY .Zeropage 0x84 s

/-- STY, Absolute form: opcode `8C` (42_load_store_transfer.md R165). -/
def execStyAbs (s : State) : Host.Outcome State Fault Refusal := runOpcode .STY .Absolute 0x8C s

/-- STY, ZeropageX form: opcode `94` (42_load_store_transfer.md R165). -/
def execStyZpX (s : State) : Host.Outcome State Fault Refusal := runOpcode .STY .ZeropageX 0x94 s

/-- TAX, Implied form: opcode `AA` (42_load_store_transfer.md R166). -/
def execTax (s : State) : Host.Outcome State Fault Refusal := runOpcode .TAX .Implied 0xAA s

/-- TAY, Implied form: opcode `A8` (42_load_store_transfer.md R167). -/
def execTay (s : State) : Host.Outcome State Fault Refusal := runOpcode .TAY .Implied 0xA8 s

/-- TSX, Implied form: opcode `BA` (42_load_store_transfer.md R168). -/
def execTsx (s : State) : Host.Outcome State Fault Refusal := runOpcode .TSX .Implied 0xBA s

/-- TXA, Implied form: opcode `8A` (42_load_store_transfer.md R169). -/
def execTxa (s : State) : Host.Outcome State Fault Refusal := runOpcode .TXA .Implied 0x8A s

/-- TXS, Implied form: opcode `9A` (42_load_store_transfer.md R170). The ISP has no stack pointer (10_state.md R29). -/
def execTxs (s : State) : Host.Outcome State Fault Refusal := runOpcode .TXS .Implied 0x9A s

/-- TYA, Implied form: opcode `98` (42_load_store_transfer.md R171). -/
def execTya (s : State) : Host.Outcome State Fault Refusal := runOpcode .TYA .Implied 0x98 s

end Sys2Proof.Machine
end

