-- ==== Sys2Proof/Machine/StackFlag.lean ====
section
/-! DEFINITION. The meanings of the family of 45_stack_flag_misc.md: stack, flag and no-operation instructions, and the Unknown operation. Each rule says: on `Byte(b)` with `phase = IDLE`, apply
40_parser.md R102 with the row's operation and mode. No rule writes a flag, raises an exception or checks a privilege. -/

namespace Sys2Proof.Machine

/-- PHA, Implied form: opcode `48` (45_stack_flag_misc.md R230). -/
def execPha (s : State) : Host.Outcome State Fault Refusal := runOpcode .PHA .Implied 0x48 s

/-- PHP, Implied form: opcode `08` (45_stack_flag_misc.md R231). -/
def execPhp (s : State) : Host.Outcome State Fault Refusal := runOpcode .PHP .Implied 0x08 s

/-- PLA, Implied form: opcode `68` (45_stack_flag_misc.md R232). -/
def execPla (s : State) : Host.Outcome State Fault Refusal := runOpcode .PLA .Implied 0x68 s

/-- PLP, Implied form: opcode `28` (45_stack_flag_misc.md R233). -/
def execPlp (s : State) : Host.Outcome State Fault Refusal := runOpcode .PLP .Implied 0x28 s

/-- CLC, Implied form: opcode `18` (45_stack_flag_misc.md R234). -/
def execClc (s : State) : Host.Outcome State Fault Refusal := runOpcode .CLC .Implied 0x18 s

/-- CLD, Implied form: opcode `D8` (45_stack_flag_misc.md R235). The decimal mode changes no decoding (R235). -/
def execCld (s : State) : Host.Outcome State Fault Refusal := runOpcode .CLD .Implied 0xD8 s

/-- CLI, Implied form: opcode `58` (45_stack_flag_misc.md R236). The ISP has no interrupt mask (60_exceptions.md R301). -/
def execCli (s : State) : Host.Outcome State Fault Refusal := runOpcode .CLI .Implied 0x58 s

/-- CLV, Implied form: opcode `B8` (45_stack_flag_misc.md R237). -/
def execClv (s : State) : Host.Outcome State Fault Refusal := runOpcode .CLV .Implied 0xB8 s

/-- SEC, Implied form: opcode `38` (45_stack_flag_misc.md R238). -/
def execSec (s : State) : Host.Outcome State Fault Refusal := runOpcode .SEC .Implied 0x38 s

/-- SED, Implied form: opcode `F8` (45_stack_flag_misc.md R239). The decimal mode changes no decoding (R239). -/
def execSed (s : State) : Host.Outcome State Fault Refusal := runOpcode .SED .Implied 0xF8 s

/-- SEI, Implied form: opcode `78` (45_stack_flag_misc.md R240). The ISP has no interrupt mask (60_exceptions.md R301). -/
def execSei (s : State) : Host.Outcome State Fault Refusal := runOpcode .SEI .Implied 0x78 s

/-- NOP, Implied form: opcode `EA` (45_stack_flag_misc.md R241). -/
def execNop (s : State) : Host.Outcome State Fault Refusal := runOpcode .NOP .Implied 0xEA s

/-- `Unknown`: an undefined opcode byte is a record of exactly one byte, not an error (45_stack_flag_misc.md R242,
40_parser.md R111). -/
def execUnknown (b : Byte) (s : State) : Host.Outcome State Fault Refusal := runOpcode .Unknown .Unknown b s

end Sys2Proof.Machine
end

