-- ==== Sys2Proof/Machine/Dispatch.lean ====
section
/-! DEFINITION. One arm per constructor of Instr: each calls its instruction's meaning. -/

namespace Sys2Proof.Machine

def exec (i : Instr) (s : State) : Host.Outcome State Fault Refusal :=
  match i with
  | .brk => Sys2Proof.Machine.execBrk s
  | .oraXInd => Sys2Proof.Machine.execOraXInd s
  | .oraZp => Sys2Proof.Machine.execOraZp s
  | .aslZp => Sys2Proof.Machine.execAslZp s
  | .php => Sys2Proof.Machine.execPhp s
  | .oraImm => Sys2Proof.Machine.execOraImm s
  | .aslA => Sys2Proof.Machine.execAslA s
  | .oraAbs => Sys2Proof.Machine.execOraAbs s
  | .aslAbs => Sys2Proof.Machine.execAslAbs s
  | .bpl => Sys2Proof.Machine.execBpl s
  | .oraIndY => Sys2Proof.Machine.execOraIndY s
  | .oraZpX => Sys2Proof.Machine.execOraZpX s
  | .aslZpX => Sys2Proof.Machine.execAslZpX s
  | .clc => Sys2Proof.Machine.execClc s
  | .oraAbsY => Sys2Proof.Machine.execOraAbsY s
  | .oraAbsX => Sys2Proof.Machine.execOraAbsX s
  | .aslAbsX => Sys2Proof.Machine.execAslAbsX s
  | .jsrAbs => Sys2Proof.Machine.execJsrAbs s
  | .andXInd => Sys2Proof.Machine.execAndXInd s
  | .bitZp => Sys2Proof.Machine.execBitZp s
  | .andZp => Sys2Proof.Machine.execAndZp s
  | .rolZp => Sys2Proof.Machine.execRolZp s
  | .plp => Sys2Proof.Machine.execPlp s
  | .andImm => Sys2Proof.Machine.execAndImm s
  | .rolA => Sys2Proof.Machine.execRolA s
  | .bitAbs => Sys2Proof.Machine.execBitAbs s
  | .andAbs => Sys2Proof.Machine.execAndAbs s
  | .rolAbs => Sys2Proof.Machine.execRolAbs s
  | .bmi => Sys2Proof.Machine.execBmi s
  | .andIndY => Sys2Proof.Machine.execAndIndY s
  | .andZpX => Sys2Proof.Machine.execAndZpX s
  | .rolZpX => Sys2Proof.Machine.execRolZpX s
  | .sec => Sys2Proof.Machine.execSec s
  | .andAbsY => Sys2Proof.Machine.execAndAbsY s
  | .andAbsX => Sys2Proof.Machine.execAndAbsX s
  | .rolAbsX => Sys2Proof.Machine.execRolAbsX s
  | .rti => Sys2Proof.Machine.execRti s
  | .eorXInd => Sys2Proof.Machine.execEorXInd s
  | .eorZp => Sys2Proof.Machine.execEorZp s
  | .lsrZp => Sys2Proof.Machine.execLsrZp s
  | .pha => Sys2Proof.Machine.execPha s
  | .eorImm => Sys2Proof.Machine.execEorImm s
  | .lsrA => Sys2Proof.Machine.execLsrA s
  | .jmpAbs => Sys2Proof.Machine.execJmpAbs s
  | .eorAbs => Sys2Proof.Machine.execEorAbs s
  | .lsrAbs => Sys2Proof.Machine.execLsrAbs s
  | .bvc => Sys2Proof.Machine.execBvc s
  | .eorIndY => Sys2Proof.Machine.execEorIndY s
  | .eorZpX => Sys2Proof.Machine.execEorZpX s
  | .lsrZpX => Sys2Proof.Machine.execLsrZpX s
  | .cli => Sys2Proof.Machine.execCli s
  | .eorAbsY => Sys2Proof.Machine.execEorAbsY s
  | .eorAbsX => Sys2Proof.Machine.execEorAbsX s
  | .lsrAbsX => Sys2Proof.Machine.execLsrAbsX s
  | .rts => Sys2Proof.Machine.execRts s
  | .adcXInd => Sys2Proof.Machine.execAdcXInd s
  | .adcZp => Sys2Proof.Machine.execAdcZp s
  | .rorZp => Sys2Proof.Machine.execRorZp s
  | .pla => Sys2Proof.Machine.execPla s
  | .adcImm => Sys2Proof.Machine.execAdcImm s
  | .rorA => Sys2Proof.Machine.execRorA s
  | .jmpInd => Sys2Proof.Machine.execJmpInd s
  | .adcAbs => Sys2Proof.Machine.execAdcAbs s
  | .rorAbs => Sys2Proof.Machine.execRorAbs s
  | .bvs => Sys2Proof.Machine.execBvs s
  | .adcIndY => Sys2Proof.Machine.execAdcIndY s
  | .adcZpX => Sys2Proof.Machine.execAdcZpX s
  | .rorZpX => Sys2Proof.Machine.execRorZpX s
  | .sei => Sys2Proof.Machine.execSei s
  | .adcAbsY => Sys2Proof.Machine.execAdcAbsY s
  | .adcAbsX => Sys2Proof.Machine.execAdcAbsX s
  | .rorAbsX => Sys2Proof.Machine.execRorAbsX s
  | .staXInd => Sys2Proof.Machine.execStaXInd s
  | .styZp => Sys2Proof.Machine.execStyZp s
  | .staZp => Sys2Proof.Machine.execStaZp s
  | .stxZp => Sys2Proof.Machine.execStxZp s
  | .dey => Sys2Proof.Machine.execDey s
  | .txa => Sys2Proof.Machine.execTxa s
  | .styAbs => Sys2Proof.Machine.execStyAbs s
  | .staAbs => Sys2Proof.Machine.execStaAbs s
  | .stxAbs => Sys2Proof.Machine.execStxAbs s
  | .bcc => Sys2Proof.Machine.execBcc s
  | .staIndY => Sys2Proof.Machine.execStaIndY s
  | .styZpX => Sys2Proof.Machine.execStyZpX s
  | .staZpX => Sys2Proof.Machine.execStaZpX s
  | .stxZpY => Sys2Proof.Machine.execStxZpY s
  | .tya => Sys2Proof.Machine.execTya s
  | .staAbsY => Sys2Proof.Machine.execStaAbsY s
  | .txs => Sys2Proof.Machine.execTxs s
  | .staAbsX => Sys2Proof.Machine.execStaAbsX s
  | .ldyImm => Sys2Proof.Machine.execLdyImm s
  | .ldaXInd => Sys2Proof.Machine.execLdaXInd s
  | .ldxImm => Sys2Proof.Machine.execLdxImm s
  | .ldyZp => Sys2Proof.Machine.execLdyZp s
  | .ldaZp => Sys2Proof.Machine.execLdaZp s
  | .ldxZp => Sys2Proof.Machine.execLdxZp s
  | .tay => Sys2Proof.Machine.execTay s
  | .ldaImm => Sys2Proof.Machine.execLdaImm s
  | .tax => Sys2Proof.Machine.execTax s
  | .ldyAbs => Sys2Proof.Machine.execLdyAbs s
  | .ldaAbs => Sys2Proof.Machine.execLdaAbs s
  | .ldxAbs => Sys2Proof.Machine.execLdxAbs s
  | .bcs => Sys2Proof.Machine.execBcs s
  | .ldaIndY => Sys2Proof.Machine.execLdaIndY s
  | .ldyZpX => Sys2Proof.Machine.execLdyZpX s
  | .ldaZpX => Sys2Proof.Machine.execLdaZpX s
  | .ldxZpY => Sys2Proof.Machine.execLdxZpY s
  | .clv => Sys2Proof.Machine.execClv s
  | .ldaAbsY => Sys2Proof.Machine.execLdaAbsY s
  | .tsx => Sys2Proof.Machine.execTsx s
  | .ldyAbsX => Sys2Proof.Machine.execLdyAbsX s
  | .ldaAbsX => Sys2Proof.Machine.execLdaAbsX s
  | .ldxAbsY => Sys2Proof.Machine.execLdxAbsY s
  | .cpyImm => Sys2Proof.Machine.execCpyImm s
  | .cmpXInd => Sys2Proof.Machine.execCmpXInd s
  | .cpyZp => Sys2Proof.Machine.execCpyZp s
  | .cmpZp => Sys2Proof.Machine.execCmpZp s
  | .decZp => Sys2Proof.Machine.execDecZp s
  | .iny => Sys2Proof.Machine.execIny s
  | .cmpImm => Sys2Proof.Machine.execCmpImm s
  | .dex => Sys2Proof.Machine.execDex s
  | .cpyAbs => Sys2Proof.Machine.execCpyAbs s
  | .cmpAbs => Sys2Proof.Machine.execCmpAbs s
  | .decAbs => Sys2Proof.Machine.execDecAbs s
  | .bne => Sys2Proof.Machine.execBne s
  | .cmpIndY => Sys2Proof.Machine.execCmpIndY s
  | .cmpZpX => Sys2Proof.Machine.execCmpZpX s
  | .decZpX => Sys2Proof.Machine.execDecZpX s
  | .cld => Sys2Proof.Machine.execCld s
  | .cmpAbsY => Sys2Proof.Machine.execCmpAbsY s
  | .cmpAbsX => Sys2Proof.Machine.execCmpAbsX s
  | .decAbsX => Sys2Proof.Machine.execDecAbsX s
  | .cpxImm => Sys2Proof.Machine.execCpxImm s
  | .sbcXInd => Sys2Proof.Machine.execSbcXInd s
  | .cpxZp => Sys2Proof.Machine.execCpxZp s
  | .sbcZp => Sys2Proof.Machine.execSbcZp s
  | .incZp => Sys2Proof.Machine.execIncZp s
  | .inx => Sys2Proof.Machine.execInx s
  | .sbcImm => Sys2Proof.Machine.execSbcImm s
  | .nop => Sys2Proof.Machine.execNop s
  | .cpxAbs => Sys2Proof.Machine.execCpxAbs s
  | .sbcAbs => Sys2Proof.Machine.execSbcAbs s
  | .incAbs => Sys2Proof.Machine.execIncAbs s
  | .beq => Sys2Proof.Machine.execBeq s
  | .sbcIndY => Sys2Proof.Machine.execSbcIndY s
  | .sbcZpX => Sys2Proof.Machine.execSbcZpX s
  | .incZpX => Sys2Proof.Machine.execIncZpX s
  | .sed => Sys2Proof.Machine.execSed s
  | .sbcAbsY => Sys2Proof.Machine.execSbcAbsY s
  | .sbcAbsX => Sys2Proof.Machine.execSbcAbsX s
  | .incAbsX => Sys2Proof.Machine.execIncAbsX s
  | .unknown b => Sys2Proof.Machine.execUnknown b s

end Sys2Proof.Machine
end

