-- ==== Sys2Proof/Machine/Step.lean ====
section
/-! DEFINITION. The step: one event of the host (40_parser.md R100). -/

namespace Sys2Proof.Machine

/-- One step of an implementation with the given `OFFSET_BITS`: the host's next event is processed (40_parser.md R100, in
the order the host gives them, 20_memory.md R48). A byte that arrives in `IDLE` is an opcode: its instruction is run
(R101, R102). A byte that arrives in `ACC` is an operand byte and is not looked up (R103, R104). With no event the state is
held (60_exceptions.md R312). A finite `OFFSET_BITS` refuses a byte at the last position (60_exceptions.md R306). -/
def stepWith (offsetBits : Option Nat) (s : State) : Host.Outcome State Fault Refusal :=
  match s.input with
  | [] => .next (holdState s)
  | .byte b :: rest =>
    if posExhausted offsetBits s then .refused .offsetExhausted
    else
      match s.control with
      | .idle => exec (decode b) (s.fetched rest)
      | .acc cur need => .next (appendOperand cur need b (s.fetched rest))
  | .endInput :: rest => .next (endEvent (s.fetched rest))
  | .reset :: rest => .next (resetEvent (s.fetched rest))

/-- One step of the ISP: `OFFSET_BITS` is unbounded (00_scope.md R5, 92_eei_decisions.md D3), so no event is refused. -/
def step (s : State) : Host.Outcome State Fault Refusal := stepWith Config.offsetBits s

/-- `s` with the instruction whose bits are `w` placed where the step fetches: the ISP is `IDLE`, and the host's next events
are that instruction's bytes, its operand bytes zero above `nbits` (log entry 11). -/
def State.withFetchWord (s : State) (nbits w : Nat) : State := placeBytes s (tableWordBytes nbits w)

end Sys2Proof.Machine
end

