-- ==== Sys2Proof/Machine/Wires.lean ====
section
/-! DEFINITION. The state and the enumerations on wires: the numeric codes of 30_encoding.md R69 and the register widths of
10_state.md R34. The codes name the constructors and nothing else (92_eei_decisions.md D7). -/

namespace Sys2Proof.Machine

/-- The 6-bit code of an operation (30_encoding.md R69). -/
def operationCode : Operation → BitVec 6
  | .ADC => 0 | .AND => 1 | .ASL => 2 | .BCC => 3 | .BCS => 4 | .BEQ => 5
  | .BIT => 6 | .BMI => 7 | .BNE => 8 | .BPL => 9 | .BRK => 10 | .BVC => 11
  | .BVS => 12 | .CLC => 13 | .CLD => 14 | .CLI => 15 | .CLV => 16 | .CMP => 17
  | .CPX => 18 | .CPY => 19 | .DEC => 20 | .DEX => 21 | .DEY => 22 | .EOR => 23
  | .INC => 24 | .INX => 25 | .INY => 26 | .JMP => 27 | .JSR => 28 | .LDA => 29
  | .LDX => 30 | .LDY => 31 | .LSR => 32 | .NOP => 33 | .ORA => 34 | .PHA => 35
  | .PHP => 36 | .PLA => 37 | .PLP => 38 | .ROL => 39 | .ROR => 40 | .RTI => 41
  | .RTS => 42 | .SBC => 43 | .SEC => 44 | .SED => 45 | .SEI => 46 | .STA => 47
  | .STX => 48 | .STY => 49 | .TAX => 50 | .TAY => 51 | .TSX => 52 | .TXA => 53
  | .TXS => 54 | .TYA => 55 | .Unknown => 56

/-- The operations in the order of their codes (30_encoding.md R69). -/
def operationTable : List Operation := [
  .ADC, .AND, .ASL, .BCC, .BCS, .BEQ, .BIT, .BMI,
  .BNE, .BPL, .BRK, .BVC, .BVS, .CLC, .CLD, .CLI,
  .CLV, .CMP, .CPX, .CPY, .DEC, .DEX, .DEY, .EOR,
  .INC, .INX, .INY, .JMP, .JSR, .LDA, .LDX, .LDY,
  .LSR, .NOP, .ORA, .PHA, .PHP, .PLA, .PLP, .ROL,
  .ROR, .RTI, .RTS, .SBC, .SEC, .SED, .SEI, .STA,
  .STX, .STY, .TAX, .TAY, .TSX, .TXA, .TXS, .TYA,
  .Unknown]

/-- The operation a 6-bit code names; codes 57 to 63 name none (30_encoding.md R69). -/
def operationOfCode (c : BitVec 6) : Option Operation := operationTable[c.toNat]?

/-- The 4-bit code of an addressing mode (30_encoding.md R69). -/
def modeCode : AddressingMode → BitVec 4
  | .Accumulator => 0 | .Absolute => 1 | .AbsoluteX => 2 | .AbsoluteY => 3 | .Immediate => 4 | .Implied => 5
  | .Indirect => 6 | .XIndirect => 7 | .IndirectY => 8 | .Relative => 9 | .Zeropage => 10 | .ZeropageX => 11
  | .ZeropageY => 12 | .Unknown => 13

/-- The addressing modes in the order of their codes (30_encoding.md R69). -/
def modeTable : List AddressingMode := [
  .Accumulator, .Absolute, .AbsoluteX, .AbsoluteY, .Immediate, .Implied, .Indirect, .XIndirect, .IndirectY,
  .Relative, .Zeropage, .ZeropageX, .ZeropageY, .Unknown]

/-- The addressing mode a 4-bit code names; codes 14 and 15 name none (30_encoding.md R69). -/
def modeOfCode (c : BitVec 4) : Option AddressingMode := modeTable[c.toNat]?

/-- A record on wires (10_state.md R34): codes, three byte registers and a 2-bit count. A byte register at index `cnt` or
above holds no value. -/
structure RecordWires where
  offset : Nat
  op : BitVec 6
  mode : BitVec 4
  cnt : BitVec 2
  b0 : Option Byte
  b1 : Option Byte
  b2 : Option Byte
  deriving DecidableEq, Repr

/-- A record put on wires (10_state.md R34, 40_parser.md R113). -/
def recordWires (r : Record) : RecordWires where
  offset := r.offset
  op := operationCode r.operation
  mode := modeCode r.addressMode
  cnt := BitVec.ofNat 2 r.rawBytes.length
  b0 := r.rawBytes[0]?
  b1 := r.rawBytes[1]?
  b2 := r.rawBytes[2]?

/-- The record that wires carry, where the codes name an operation and a mode. -/
def recordOfWires (w : RecordWires) : Option Record :=
  match operationOfCode w.op, modeOfCode w.mode with
  | some op, some mode =>
    some { offset := w.offset, operation := op, addressMode := mode,
           rawBytes := ([w.b0, w.b1, w.b2].take w.cnt.toNat).filterMap id }
  | _, _ => none

/-- The registers of the ISP on wires (10_state.md R34): `phase` 1 bit (0 = IDLE, 1 = ACC), `need` 2 bits, `cur`, `pos`. -/
structure StateWires where
  phase : BitVec 1
  need : Option (BitVec 2)
  cur : Option RecordWires
  pos : Nat
  deriving DecidableEq, Repr

/-- The registers put on wires (10_state.md R34). -/
def stateWires (s : State) : StateWires where
  phase := match s.phase with
    | .IDLE => 0
    | .ACC => 1
  need := s.need.map (BitVec.ofNat 2)
  cur := s.cur.map recordWires
  pos := s.pos

/-- The control state that wires carry. -/
def controlOfWires (w : StateWires) : Option Control :=
  if w.phase = 0 then some .idle
  else
    match w.need, w.cur with
    | some n, some c => (recordOfWires c).map fun r => .acc r n.toNat
    | _, _ => none

end Sys2Proof.Machine
end

