-- ==== Sys2Proof/Machine/Ports.lean ====
section
/-! DEFINITION. The port-level view (40_parser.md R113): the inputs of one clock edge as events in their priority order
(60_exceptions.md R305), the outputs of a step, and one clock edge of the ISP. -/

namespace Sys2Proof.Machine

/-- The inputs on one clock edge: `rst`, `in_valid` with `in_byte`, `in_end` (40_parser.md R113). -/
structure Edge where
  rst : Bool
  inValid : Bool
  inByte : Byte
  inEnd : Bool
  deriving DecidableEq, Repr

/-- The events of one clock edge (60_exceptions.md R305): `rst` wins over everything; otherwise the byte comes before the
end of input. Log entry 12. -/
def Edge.events (e : Edge) : List Event :=
  if e.rst then [.reset]
  else (if e.inValid then [.byte e.inByte] else []) ++ (if e.inEnd then [.endInput] else [])

/-- The record bus when `rec_valid` is 1: the record on wires, and `rec_sat` (40_parser.md R113). -/
structure RecordBus where
  wires : RecordWires
  recSat : Bool
  deriving DecidableEq, Repr

/-- The outputs, valid for one step (40_parser.md R113): `rec_valid`, the record bus (it carries a record on exactly the
steps with `rec_valid` 1), and `done`. -/
structure PortOut where
  recValid : Bool
  bus : Option RecordBus
  done : Bool
  deriving DecidableEq, Repr

/-- The outputs that show a record and a result put out (40_parser.md R113). -/
def portOut (bus : Option Record) (done : Bool) : PortOut where
  recValid := bus.isSome
  bus := bus.map fun r => { wires := recordWires r, recSat := r.satisfied }
  done := done

/-- The outputs of the step just taken (40_parser.md R113). -/
def State.ports (s : State) : PortOut := portOut s.bus s.done

/-- One clock edge (40_parser.md R100, R113, 60_exceptions.md R305): the edge's events are processed in their order, each in
one step; with no event the state is held. The outputs of the edge are those of its steps: at most one of them emits a
record (R113). The ports are the only input here: `input` is left as it stands. -/
def clockEdge (e : Edge) (s : State) : Host.Outcome (State × PortOut) Fault Refusal :=
  match step { s with input := e.events } with
  | .fault r => .fault r
  | .refused r => .refused r
  | .next t =>
    if e.events.length = 2 then
      match step t with
      | .fault r => .fault r
      | .refused r => .refused r
      | .next u => .next ({ u with input := s.input }, portOut (u.bus <|> t.bus) (u.done || t.done))
    else .next ({ t with input := s.input }, t.ports)

/-- Clock edges one after another, with the outputs of each. -/
def clockEdges : List Edge → State → Host.Outcome (State × List PortOut) Fault Refusal
  | [], s => .next (s, [])
  | e :: es, s =>
    match clockEdge e s with
    | .fault r => .fault r
    | .refused r => .refused r
    | .next (t, o) =>
      match clockEdges es t with
      | .fault r => .fault r
      | .refused r => .refused r
      | .next (u, os) => .next (u, o :: os)

end Sys2Proof.Machine
end

