-- ==== Sys2Proof/Machine/Operands.lean ====
section
/-! DEFINITION. Operand values of a record, one form per addressing mode, and the relative-branch offset calculator
(41_addressing_modes.md). The operand value of an unsatisfied record does not exist (R130): every function here answers
`none` for one (log entry 15). -/

namespace Sys2Proof.Machine

/-- `opcode(r)` (10_state.md R25). -/
def Record.opcode (r : Record) : Option Byte := r.rawBytes[0]?

/-- `end(r)`: the position after the record's last byte (10_state.md R25). -/
def Record.endPos (r : Record) : Nat := r.offset + r.rawBytes.length

/-- `o8(r)`: the first operand byte of a satisfied record of length 2 or more (41_addressing_modes.md R130). It is unsigned
(R132). -/
def Record.o8 (r : Record) : Option Byte :=
  if r.satisfied && decide (2 ≤ r.len) then r.rawBytes[1]? else none

/-- `lo(r)`: the low byte of a 16-bit operand (41_addressing_modes.md R130, 20_memory.md R42). -/
def Record.lo (r : Record) : Option Byte :=
  if r.satisfied && decide (r.len = 3) then r.rawBytes[1]? else none

/-- `hi(r)`: the high byte of a 16-bit operand (41_addressing_modes.md R130, 20_memory.md R42). -/
def Record.hi (r : Record) : Option Byte :=
  if r.satisfied && decide (r.len = 3) then r.rawBytes[2]? else none

/-- `hi:lo`: two bytes as a 16-bit value, `hi * 256 + lo` (00_scope.md R6). -/
def wordOf (hi lo : Byte) : Word := hi ++ lo

/-- `w16(r)`: the 16-bit operand, little-endian (41_addressing_modes.md R131). -/
def Record.w16 (r : Record) : Option Word :=
  match r.hi, r.lo with
  | some hi, some lo => some (wordOf hi lo)
  | _, _ => none

/-- `sext_8(b)` (00_scope.md R7). -/
def sext8 (b : Byte) : Int := if b.toNat < 128 then (b.toNat : Int) else (b.toNat : Int) - 256

/-- The branch target of the displacement `o8` at `offset`: `(offset + 2 + sext_8(o8)) mod 2^16`
(41_addressing_modes.md R134). -/
def branchTarget (offset : Nat) (o8 : Byte) : Word := BitVec.ofInt 16 ((offset : Int) + 2 + sext8 o8)

/-- The hardware form of the same value: one 16-bit adder on `offset[15:0]` (41_addressing_modes.md R134). -/
def branchAdder (offset : Nat) (o8 : Byte) : Word := BitVec.ofNat 16 offset + 2 + o8.signExtend 16

/-- `target(r)`: only a satisfied Relative record has one (41_addressing_modes.md R134). -/
def Record.target (r : Record) : Option Word :=
  if r.addressMode = .Relative then r.o8.map (branchTarget r.offset) else none

/-- The operand of a satisfied record, one form per addressing mode (41_addressing_modes.md R135 to R148). Implied and Unknown
have no operand: their forms say only how the text goes on (log entry 25). -/
inductive Operand where
  | implied
  | accumulator
  | immediate (o8 : Byte)
  | zeropage (o8 : Byte)
  | zeropageX (o8 : Byte)
  | zeropageY (o8 : Byte)
  | absolute (w16 : Word)
  | absoluteX (w16 : Word)
  | absoluteY (w16 : Word)
  | indirect (w16 : Word)
  | xIndirect (o8 : Byte)
  | indirectY (o8 : Byte)
  | relative (target : Word)
  | unknown (b : Byte)
  deriving DecidableEq, Repr

/-- The operand of a record: a function of its own bytes, and of its offset for Relative (41_addressing_modes.md R133, R135
to R148). `none` for an unsatisfied record (R130). -/
def Record.operand (r : Record) : Option Operand :=
  if r.satisfied then
    match r.addressMode with
    | .Implied => some .implied
    | .Accumulator => some .accumulator
    | .Immediate => r.o8.map .immediate
    | .Zeropage => r.o8.map .zeropage
    | .ZeropageX => r.o8.map .zeropageX
    | .ZeropageY => r.o8.map .zeropageY
    | .Absolute => r.w16.map .absolute
    | .AbsoluteX => r.w16.map .absoluteX
    | .AbsoluteY => r.w16.map .absoluteY
    | .Indirect => r.w16.map .indirect
    | .XIndirect => r.o8.map .xIndirect
    | .IndirectY => r.o8.map .indirectY
    | .Relative => r.target.map .relative
    | .Unknown => r.opcode.map .unknown
  else none

end Sys2Proof.Machine
end

