-- ==== Sys2Proof/Machine/Stream.lean ====
section
/-! DEFINITION. The reference function `Decode(bs)` of 40_parser.md R109, the source's fold over the whole input. -/

namespace Sys2Proof.Machine

/-- One round of the loop of 40_parser.md R109: byte `b` at position `p`, with the records `acc` made so far. -/
def decodeByteWith (tab : Byte → Operation × AddressingMode) (acc : List Record) (p : Nat) (b : Byte) : List Record :=
  match acc.getLast? with
  | none => acc ++ [newRecord p (tab b).1 (tab b).2 b]
  | some r =>
    if r.satisfied then acc ++ [newRecord p (tab b).1 (tab b).2 b] else acc.dropLast ++ [r.append b]

/-- The loop of 40_parser.md R109 from position `p` on. -/
def decodeFromWith (tab : Byte → Operation × AddressingMode) : List Record → Nat → List Byte → List Record
  | acc, _, [] => acc
  | acc, p, b :: bs => decodeFromWith tab (decodeByteWith tab acc p b) (p + 1) bs

/-- `Decode(bs)` for an opcode table `tab` (93_implementation_defined.md U9). -/
def decodeStreamWith (tab : Byte → Operation × AddressingMode) (bs : List Byte) : List Record := decodeFromWith tab [] 0 bs

/-- `Decode(bs)` of 40_parser.md R109: the first observation of 00_scope.md R10. -/
def decodeStream (bs : List Byte) : List Record := decodeStreamWith opTab bs

/-- The bytes of a sequence of records, in order (40_parser.md R110 (4)). -/
def bytesOf (rs : List Record) : List Byte := rs.flatMap Record.rawBytes

end Sys2Proof.Machine
end

