-- ==== Sys2Proof/Machine/Render.lean ====
section
/-! DEFINITION. The disassembly line of a record (47_render.md). Rendering is a pure function of one record and of the
parameters the source leaves open. -/

namespace Sys2Proof.Machine

/-- A digit: `0`-`9`, then upper-case `A`-`F` (47_render.md R261). -/
def digitChar (n : Nat) : Char := if n < 10 then Char.ofNat (48 + n) else Char.ofNat (55 + n)

/-- The last `d` digits of `v` in base `base`, most significant first, padded with `0`. -/
def digits (base : Nat) : Nat → Nat → Text
  | 0, _ => []
  | d + 1, v => digits base d (v / base) ++ [digitChar (v % base)]

/-- `hex2(b)`: exactly 2 digits (47_render.md R261). -/
def hex2 (b : Byte) : Text := digits 16 2 b.toNat

/-- `hex4(w)` of a 16-bit value: exactly 4 digits (47_render.md R261). -/
def hex4 (w : Word) : Text := digits 16 4 w.toNat

/-- How many hexadecimal digits `v` has. -/
def hexLen (v : Nat) : Nat := v.log2 / 4 + 1

/-- `hex4(v)` of an offset: at least 4 digits, never truncated (47_render.md R251, 92_eei_decisions.md D8). -/
def hexOffset (v : Nat) : Text := digits 16 (max 4 (hexLen v)) v

/-- `bin8(b)`: 8 binary digits, most significant bit first (47_render.md R262). -/
def bin8 (b : Byte) : Text := digits 2 8 b.toNat

/-- `n` spaces. -/
def spaces (n : Nat) : Text := List.replicate n ' '

/-- `padright(s, n)`: `s` followed by spaces up to `n` columns (47_render.md R264). -/
def padRight (s : Text) (n : Nat) : Text := s ++ spaces (n - s.length)

/-- Texts joined by single spaces (47_render.md R259). -/
def joinSpaces : List Text → Text
  | [] => []
  | [t] => t
  | t :: u :: ts => t ++ ' ' :: joinSpaces (u :: ts)

/-- `bytes_hex(r)`: the bytes present, as hex pairs joined by single spaces (47_render.md R259). -/
def bytesHex (r : Record) : Text := joinSpaces (r.rawBytes.map hex2)

/-- `mnemonic_text`: the name of the operation, `???` for `Unknown` (47_render.md R260). -/
def mnemonicText : Operation → Text
  | .ADC => "ADC".toList
  | .AND => "AND".toList
  | .ASL => "ASL".toList
  | .BCC => "BCC".toList
  | .BCS => "BCS".toList
  | .BEQ => "BEQ".toList
  | .BIT => "BIT".toList
  | .BMI => "BMI".toList
  | .BNE => "BNE".toList
  | .BPL => "BPL".toList
  | .BRK => "BRK".toList
  | .BVC => "BVC".toList
  | .BVS => "BVS".toList
  | .CLC => "CLC".toList
  | .CLD => "CLD".toList
  | .CLI => "CLI".toList
  | .CLV => "CLV".toList
  | .CMP => "CMP".toList
  | .CPX => "CPX".toList
  | .CPY => "CPY".toList
  | .DEC => "DEC".toList
  | .DEX => "DEX".toList
  | .DEY => "DEY".toList
  | .EOR => "EOR".toList
  | .INC => "INC".toList
  | .INX => "INX".toList
  | .INY => "INY".toList
  | .JMP => "JMP".toList
  | .JSR => "JSR".toList
  | .LDA => "LDA".toList
  | .LDX => "LDX".toList
  | .LDY => "LDY".toList
  | .LSR => "LSR".toList
  | .NOP => "NOP".toList
  | .ORA => "ORA".toList
  | .PHA => "PHA".toList
  | .PHP => "PHP".toList
  | .PLA => "PLA".toList
  | .PLP => "PLP".toList
  | .ROL => "ROL".toList
  | .ROR => "ROR".toList
  | .RTI => "RTI".toList
  | .RTS => "RTS".toList
  | .SBC => "SBC".toList
  | .SEC => "SEC".toList
  | .SED => "SED".toList
  | .SEI => "SEI".toList
  | .STA => "STA".toList
  | .STX => "STX".toList
  | .STY => "STY".toList
  | .TAX => "TAX".toList
  | .TAY => "TAY".toList
  | .TSX => "TSX".toList
  | .TXA => "TXA".toList
  | .TXS => "TXS".toList
  | .TYA => "TYA".toList
  | .Unknown => "???".toList

/-- The defaults of 00_scope.md R5 for the parameters the source leaves open (92_eei_decisions.md D8 to D11). -/
def defaultParams : RenderParams where
  missingMarker := "*Missing operands*".toList
  impliedTrailingSpace := true
  offsetText := hexOffset
  unknownSeparator := []

/-- `ch(b)`: the quoted ASCII character of a byte from 32 to 126, else nothing (47_render.md R262). -/
def quotedChar (sep : Text) (b : Byte) : Text :=
  if 32 ≤ b.toNat ∧ b.toNat ≤ 126 then sep ++ ['\'', Char.ofNat b.toNat, '\''] else []

/-- The text of an operand, one form per addressing mode (47_render.md R252 to R258, R262). -/
def Operand.text (p : RenderParams) : Operand → Text
  | .implied => []
  | .accumulator => "A".toList
  | .immediate o8 => "#$".toList ++ hex2 o8
  | .zeropage o8 => "$".toList ++ hex2 o8
  | .zeropageX o8 => "$".toList ++ hex2 o8 ++ ",X".toList
  | .zeropageY o8 => "$".toList ++ hex2 o8 ++ ",Y".toList
  | .absolute w16 => "$".toList ++ hex4 w16
  | .absoluteX w16 => "$".toList ++ hex4 w16 ++ ",X".toList
  | .absoluteY w16 => "$".toList ++ hex4 w16 ++ ",Y".toList
  | .indirect w16 => "($".toList ++ hex4 w16 ++ ")".toList
  | .xIndirect o8 => "($".toList ++ hex2 o8 ++ ",X)".toList
  | .indirectY o8 => "($".toList ++ hex2 o8 ++ "),Y".toList
  | .relative target => "$".toList ++ hex4 target
  | .unknown b => ";%".toList ++ bin8 b ++ quotedChar p.unknownSeparator b

/-- `operand_text(r)`: the marker for a record that is not satisfied, checked before the mode is looked at (47_render.md
R263), else the text of its operand. -/
def operandText (p : RenderParams) (r : Record) : Text :=
  match r.operand with
  | some o => o.text p
  | none => p.missingMarker

/-- What stands between the mnemonic and the operand text: one space (47_render.md R265); an Implied line leaves it out when
the parameter IMPLIED_TRAILING_SPACE is false (00_scope.md R5). -/
def separator (p : RenderParams) (r : Record) : Text :=
  if r.addressMode = .Implied && !p.impliedTrailingSpace then [] else spaces 1

/-- The offset of a line: exactly 4 digits below 0x10000 (47_render.md R251), and from there on the parameter OFFSET_TEXT
(00_scope.md R5). -/
def offsetField (p : RenderParams) (v : Nat) : Text := if v < 0x10000 then digits 16 4 v else p.offsetText v

/-- What stands before the mnemonic: the offset, three spaces, the bytes field of 8 columns, six spaces (47_render.md R250). -/
def linePrefix (p : RenderParams) (r : Record) : Text :=
  offsetField p r.offset ++ spaces 3 ++ padRight (bytesHex r) 8 ++ spaces 6

/-- `line(r)` (47_render.md R250), with no line terminator (92_eei_decisions.md D20). -/
def lineWith (p : RenderParams) (r : Record) : Text :=
  linePrefix p r ++ mnemonicText r.operation ++ separator p r ++ operandText p r

/-- `line(r)` with the defaults of 00_scope.md R5. -/
def line (r : Record) : Text := lineWith defaultParams r

/-- The text lines of an input: the second observation of 00_scope.md R10. -/
def listing (bs : List Byte) : List Text := (decodeStream bs).map line

end Sys2Proof.Machine
end

