-- ==== Sys2Proof/Safety.lean ====
section
/-! DEFINITION. The terms claims use: well-formed records, the invariant of the ISP, what a run of events shows, and the shape
of an instruction's effect. -/

namespace Sys2Proof.Machine

/-- A record as the ISP holds or emits it (10_state.md R26 (1), (3)): one byte to its full length, and the operation and mode
of its first byte. -/
abbrev Record.WF (r : Record) : Prop :=
  1 ≤ r.rawBytes.length ∧ r.rawBytes.length ≤ r.len ∧ r.rawBytes[0]?.map opTab = some (r.operation, r.addressMode)

/-- The records start at `p` and each starts where the one before it ends (10_state.md R26 (5)). -/
def chained : Nat → List Record → Prop
  | _, [] => True
  | p, r :: rs => r.offset = p ∧ chained r.endPos rs

/-- What ties `phase`, `cur`, `need`, `pos` and `out` together: in `IDLE`, `pos` counts the bytes of `out`; in `ACC`, `cur`
starts where `out` ends, `need = Len - len` is 1 or 2, and `pos` counts the bytes of `cur` as well (10_state.md R21, R23). -/
def controlInv (pos : Nat) (out : List Record) : Control → Prop
  | .idle => pos = (bytesOf out).length
  | .acc cur need =>
    cur.WF ∧ cur.offset = (bytesOf out).length ∧ pos = cur.endPos ∧ cur.rawBytes.length + need = cur.len ∧
      1 ≤ need ∧ need ≤ 2

/-- The invariant of the ISP: every record in `out` is well formed and satisfied (10_state.md R26 (4)), their offsets follow
one another from 0 (R26 (5)), and `controlInv` holds. -/
def State.Inv (s : State) : Prop :=
  (∀ r ∈ s.out, r.WF ∧ r.satisfied = true) ∧ chained 0 s.out ∧ controlInv s.pos s.out s.control

/-- `out`, followed by `cur` in `ACC`, is `Decode` of the bytes consumed so far, and `pos` counts those bytes (40_parser.md
R109, 10_state.md R21). -/
def State.DecodesItsBytes (s : State) : Prop :=
  decodeStream (bytesOf s.records) = s.records ∧ (bytesOf s.records).length = s.pos

/-- The ISP is at the start of an invocation (70_reset_and_hazards.md R324): `IDLE`, position 0, nothing emitted. -/
abbrev State.Fresh (s : State) : Prop := s.control = .idle ∧ s.pos = 0 ∧ s.out = []

/-- The `Byte` events of a sequence of bytes, in order (20_memory.md R41). -/
def byteEvents (bs : List Byte) : List Event := bs.map .byte

/-- The records a host collects from the record bus over `k` steps, in order (40_parser.md R113). -/
def collectBus : Nat → State → List Record
  | 0, _ => []
  | k + 1, s =>
    match step s with
    | .next t => t.bus.toList ++ collectBus k t
    | .fault _ => []
    | .refused _ => []

/-- In `IDLE`, the instruction `i` emits a one-byte record of `op` and `mode` at once, adds 1 to `pos`, and changes nothing
else (40_parser.md R102 with `L = 1`). -/
def EmitsAtOnce (i : Instr) (op : Operation) (mode : AddressingMode) (b : Byte) : Prop :=
  ∀ s : State, s.control = .idle →
    exec i s = .next { s with
      pos := s.pos + 1
      out := s.out ++ [{ offset := s.pos, operation := op, addressMode := mode, rawBytes := [b] }]
      bus := some { offset := s.pos, operation := op, addressMode := mode, rawBytes := [b] } }

/-- In `IDLE`, the instruction `i` starts a record of `op` and `mode` that waits for `need` operand bytes, adds 1 to `pos`, and
changes nothing else: `out`, the record bus and the result stay (40_parser.md R102 with `L = need + 1`). -/
def WaitsForOperands (i : Instr) (op : Operation) (mode : AddressingMode) (b : Byte) (need : Nat) : Prop :=
  ∀ s : State, s.control = .idle →
    exec i s = .next { s with
      pos := s.pos + 1
      control := .acc { offset := s.pos, operation := op, addressMode := mode, rawBytes := [b] } need }

/-- The clock edge `e` is the step on `events`, the host's list of one event or none: the edge goes where that step goes, with
the ports' `input` left as it stands; `done` is as given; `rec_valid` is 1 exactly when the step emits a record, which is then on
the record bus with its codes, its bytes, its count and `rec_sat` (40_parser.md R113). -/
def EdgeIsTheStepOn (events : List Event) (done : Bool) (e : Edge) (s : State) : Prop :=
  ∃ t o, step { s with input := events } = .next t ∧ clockEdge e s = .next ({ t with input := s.input }, o) ∧
    o.done = done ∧ (o.recValid = true ↔ ∃ r, t.bus = some r) ∧ (t.bus = none → o.bus = none) ∧
    ∀ r, t.bus = some r → o.bus = some
      { wires := { offset := r.offset, op := operationCode r.operation, mode := modeCode r.addressMode,
                   cnt := BitVec.ofNat 2 r.rawBytes.length, b0 := r.rawBytes[0]?, b1 := r.rawBytes[1]?,
                   b2 := r.rawBytes[2]? },
        recSat := r.satisfied }

/-- The value that a text of hexadecimal digits stands for, read from the left. -/
def textValue (base : Nat) (t : Text) : Nat :=
  t.foldl (fun v c => v * base + (if c.toNat < 65 then c.toNat - 48 else c.toNat - 55)) 0

/-- Whether a character is an upper-case hexadecimal digit (47_render.md R261). -/
def isHexDigit (c : Char) : Bool := "0123456789ABCDEF".toList.contains c

end Sys2Proof.Machine
end

