-- ==== Sys2Proof/Certificates/Slice0/Obligations.lean ====
section
/-! DEFINITION. The statements for the provers. Each formalises what its docstring says; OBLIGATIONS.json names the rules. -/

open Sys2Proof Sys2Proof.Machine

/-- OpTab(A9) = (LDA, Immediate), OpTab(A0) = (LDY, Immediate), OpTab(20) = (JSR, Absolute) with length 3, OpTab(F0) =
(BEQ, Relative), OpTab(FF) = (Unknown, Unknown). -/
def Obligations.AnchorRowsAreInTheTable : Prop :=
  opTab 0xA9 = (.LDA, .Immediate) ∧ opTab 0xA0 = (.LDY, .Immediate) ∧
  opTab 0x20 = (.JSR, .Absolute) ∧ opcodeLen 0x20 = 3 ∧
  opTab 0xF0 = (.BEQ, .Relative) ∧ opTab 0xFF = (.Unknown, .Unknown)

/-- Len(mode) is 1 for Accumulator, Implied and Unknown, 2 for Immediate, Zeropage, ZeropageX, ZeropageY, XIndirect,
IndirectY and Relative, 3 for Absolute, AbsoluteX, AbsoluteY and Indirect. -/
def Obligations.LengthOfEachMode : Prop :=
  AddressingMode.len .Accumulator = 1 ∧ AddressingMode.len .Implied = 1 ∧ AddressingMode.len .Unknown = 1 ∧
  AddressingMode.len .Immediate = 2 ∧ AddressingMode.len .Zeropage = 2 ∧ AddressingMode.len .ZeropageX = 2 ∧
  AddressingMode.len .ZeropageY = 2 ∧ AddressingMode.len .XIndirect = 2 ∧ AddressingMode.len .IndirectY = 2 ∧
  AddressingMode.len .Relative = 2 ∧ AddressingMode.len .Absolute = 3 ∧ AddressingMode.len .AbsoluteX = 3 ∧
  AddressingMode.len .AbsoluteY = 3 ∧ AddressingMode.len .Indirect = 3

/-- A few opcode bytes written out from the map of R63, at least two of every family and one undefined, decode to the
instruction they stand for. -/
def Obligations.OneOpcodeOfEachKindDecodes : Prop :=
  decode 0x00 = .brk ∧ decode 0x08 = .php ∧ decode 0x50 = .bvc ∧ decode 0x6A = .rorA ∧
  decode 0x6C = .jmpInd ∧ decode 0x71 = .adcIndY ∧ decode 0x96 = .stxZpY ∧ decode 0x9A = .txs ∧
  decode 0xAD = .ldaAbs ∧ decode 0xE0 = .cpxImm ∧ decode 0xEA = .nop ∧ decode 0x89 = .unknown 0x89

/-- A byte is in the list of R64 exactly when OpTab gives (Unknown, Unknown); the list has 105 values, 40 of them
printable ASCII; the length of each is 1; and running its instruction answers a next state in every state. -/
def Obligations.UndefinedBytesAreUnknownAndOneByteLong : Prop :=
  undefinedOpcodes.length = 105 ∧
  (undefinedOpcodes.filter fun b => decide (32 ≤ b.toNat ∧ b.toNat ≤ 126)).length = 40 ∧
  ∀ b : Byte, (b ∈ undefinedOpcodes ↔ opTab b = (.Unknown, .Unknown)) ∧
    (b ∈ undefinedOpcodes → opcodeLen b = 1 ∧ ∀ s : State, ∃ t, exec (decode b) s = .next t)

/-- For every byte, the operation is Unknown exactly when the mode is Unknown; otherwise the byte is the opcode of an
entry of R63. -/
def Obligations.OpTabIsTotalAndPaired : Prop :=
  ∀ b : Byte, ((opTab b).1 = .Unknown ↔ (opTab b).2 = .Unknown) ∧
    ((opTab b).1 ≠ .Unknown → (decode b).opcode = b ∧ opTab b = ((decode b).operation, (decode b).mode)) ∧
    ((opTab b).1 = .Unknown → decode b = .unknown b)

/-- For every well-formed instruction i, any operand bytes and any bytes after them, the decoder reads i from the
encoding of i and leaves exactly the operand bytes and the rest. -/
def Obligations.DecodeOfEncodeIsTheInstruction : Prop :=
  ∀ (i : Instr) (operands rest : List Byte), i.wellFormed = true →
    decodeBytes (encodeWith i operands ++ rest) = .ok (i, operands ++ rest) ∧
    opTab i.opcode = (i.operation, i.mode)

/-- For every byte b and any bytes after it, the decoder reads a well-formed instruction whose encoding is [b], and
leaves the rest; only the empty list holds no instruction. -/
def Obligations.EncodeOfDecodeIsTheByte : Prop :=
  (∀ (b : Byte) (rest : List Byte), ∃ i : Instr,
    decodeBytes (b :: rest) = .ok (i, rest) ∧ i.wellFormed = true ∧ encode i = [b]) ∧
  decodeBytes [] = .error .noByte

/-- When the ISP is IDLE and the next events are the bytes b :: bs, the decoder reads i from those bytes, and step is
exec of i in the state with that event taken off and the outputs of the step before cleared; nothing else changes
around exec. -/
def Obligations.StepRunsTheDecodedInstruction : Prop :=
  ∀ (s : State) (b : Byte) (bs : List Byte) (later : List Event) (i : Instr),
    s.control = .idle → s.input = byteEvents (b :: bs) ++ later → decodeBytes (b :: bs) = .ok (i, bs) →
    step s = exec i { s with input := byteEvents bs ++ later, bus := none, result := none }

/-- If the decoder reads i from the low nbits bits of w, then step on s.withFetchWord nbits w is exec of i in s set to
IDLE, with the outputs cleared, whose next events are the operand bytes of i, bytes 1 to len - 1 of the word in
stream order, and then the events that s had; byte k of the word is its bits 8k+7 to 8k, with every bit from nbits
on 0. withFetchWord is the model's own device, no rule of the spec: it stands for the host that hands over the bytes
of one instruction (log entry 11). -/
def Obligations.FetchWordPlacesTheInstruction : Prop :=
  ∀ (s : State) (nbits w : Nat) (i : Instr), decodeTableWord nbits w = some i →
    step (s.withFetchWord nbits w) =
      exec i { s with
        control := .idle
        bus := none
        result := none
        input := byteEvents (((tableWordBytes nbits w).drop 1).take (i.mode.len - 1)) ++ s.input } ∧
    (((tableWordBytes nbits w).drop 1).take (i.mode.len - 1)).length = i.mode.len - 1 ∧
    i = decode (BitVec.ofNat 8 (w % 2 ^ nbits)) ∧
    (∀ k, k < i.mode.len → (tableWordBytes nbits w)[k]? = some (BitVec.ofNat 8 (w % 2 ^ nbits / 2 ^ (8 * k))))

/-- In ACC with cur and need: if need is 1, the byte completes the record, which is emitted, and the phase becomes IDLE;
if need is 2, the record has one byte more and need becomes 1; pos grows by 1; operation, mode and offset do not
change; the byte is not looked up. -/
def Obligations.OperandByteIsAppended : Prop :=
  ∀ (s : State) (cur : Record) (need : Nat) (b : Byte) (rest : List Event),
    s.control = .acc cur need → s.input = .byte b :: rest →
    (need = 1 → step s = .next
      { control := .idle, pos := s.pos + 1,
        out := s.out ++ [{ cur with rawBytes := cur.rawBytes ++ [b] }],
        bus := some { cur with rawBytes := cur.rawBytes ++ [b] }, result := none, input := rest }) ∧
    (need = 2 → step s = .next
      { control := .acc { cur with rawBytes := cur.rawBytes ++ [b] } 1, pos := s.pos + 1, out := s.out,
        bus := none, result := none, input := rest })

/-- In ACC, End returns out followed by cur, emits cur, and leaves IDLE, pos 0, no cur, no need and an empty out; under
the invariant the flushed record is unsatisfied. From the start of an invocation, the bytes 20 28 and End return the
one record JSR Absolute [20 28] at offset 0, whatever events follow. -/
def Obligations.EndFlushesTheTruncatedRecord : Prop :=
  (∀ (s : State) (cur : Record) (need : Nat) (rest : List Event),
    s.control = .acc cur need → s.input = .endInput :: rest →
    step s = .next { control := .idle, pos := 0, out := [], bus := some cur, result := some (s.out ++ [cur]),
                     input := rest } ∧
    (s.Inv → cur.rawBytes.length < cur.len ∧ cur.rawBytes[0]?.map opTab = some (cur.operation, cur.addressMode))) ∧
  (∀ (s : State) (later : List Event), s.Fresh → s.input = .byte 0x20 :: .byte 0x28 :: .endInput :: later →
    ∃ t, Host.Core.run Sys2Proof.core 3 s = .next t ∧ t.input = later ∧
      t.result = some [{ offset := 0, operation := .JSR, addressMode := .Absolute, rawBytes := [0x20, 0x28] }])

/-- In IDLE, End returns out, emits nothing and leaves pos 0 and an empty out; with nothing before it, it returns the
empty sequence; a second End right after a first returns the empty sequence. -/
def Obligations.EndWithNoRecordInProgress : Prop :=
  (∀ (s : State) (rest : List Event), s.control = .idle → s.input = .endInput :: rest →
    step s = .next { control := .idle, pos := 0, out := [], bus := none, result := some s.out, input := rest }) ∧
  (∀ (s : State) (rest : List Event), s.Fresh → s.input = .endInput :: rest → ∃ t, step s = .next t ∧ t.result = some []) ∧
  (∀ (s : State) (rest : List Event), s.input = .endInput :: .endInput :: rest →
    ∃ t, Host.Core.run Sys2Proof.core 2 s = .next t ∧ t.result = some [])

/-- After a step on End or on Reset, and in State.reset, phase is IDLE, pos is 0, need and cur hold no value and out is
empty. -/
def Obligations.AfterEndTheStateIsTheResetState : Prop :=
  (State.reset.phase = .IDLE ∧ State.reset.pos = 0 ∧ State.reset.need = none ∧ State.reset.cur = none ∧
    State.reset.out = []) ∧
  (∀ (s : State) (rest : List Event), s.input = .endInput :: rest ∨ s.input = .reset :: rest →
    ∃ t, step s = .next t ∧ t.phase = .IDLE ∧ t.pos = 0 ∧ t.need = none ∧ t.cur = none ∧ t.out = [])

/-- In any state, Reset leaves IDLE, pos 0, no cur, no need and an empty out, returns no result and emits no record; the
host's later events are kept. -/
def Obligations.ResetEventGivesTheResetState : Prop :=
  ∀ (s : State) (rest : List Event), s.input = .reset :: rest →
    step s = .next { control := .idle, pos := 0, out := [], bus := none, result := none, input := rest } ∧
    ({ State.reset with input := rest } : State) =
      { control := .idle, pos := 0, out := [], bus := none, result := none, input := rest }

/-- With no event handed over, a step keeps control (phase, cur, need), pos and out, and puts out no record and no
result. -/
def Obligations.NoEventHoldsTheState : Prop :=
  ∀ s : State, s.input = [] → step s = .next { s with bus := none, result := none }

/-- In every state the step answers a next state, never a fault or a refusal; it takes exactly one event off the host's
list if there is one; and exec answers a next state for every instruction in every state. -/
def Obligations.NoEventIsRefusedOrFaults : Prop :=
  (∀ s : State, ∃ t, step s = .next t ∧ t.input = s.input.tail) ∧
  (∀ (i : Instr) (s : State), ∃ t, exec i s = .next t)

/-- A step on a byte, or with no event, appends to out either nothing or the one record that is on the bus; a step on
End hands out, with the record in progress if any, to the host as the result and clears it; a step on Reset clears
it. -/
def Obligations.EmittedRecordsAreNeverChanged : Prop :=
  (∀ (s t : State), (s.input = [] ∨ ∃ b rest, s.input = .byte b :: rest) → step s = .next t →
    t.out = s.out ++ t.bus.toList ∧ t.result = none) ∧
  (∀ (s t : State) (rest : List Event), s.input = .endInput :: rest → step s = .next t →
    t.out = [] ∧ t.result = some (s.out ++ s.cur.toList) ∧ t.bus = s.cur) ∧
  (∀ (s t : State) (rest : List Event), s.input = .reset :: rest → step s = .next t →
    t.out = [] ∧ t.result = none ∧ t.bus = none)

/-- Every Byte event adds exactly 1 to pos; no other event changes it, except End and Reset, which set it to 0; it never
wraps. In IDLE on a byte, the record that starts takes pos as its offset. -/
def Obligations.PositionCountsBytes : Prop :=
  ∀ s t : State, step s = .next t →
    (s.input = [] → t.pos = s.pos) ∧
    (∀ b rest, s.input = .byte b :: rest → t.pos = s.pos + 1 ∧
      (s.control = .idle → ∃ r, (t.bus = some r ∨ t.cur = some r) ∧ r.offset = s.pos ∧ r.rawBytes = [b])) ∧
    (∀ rest, s.input = .endInput :: rest ∨ s.input = .reset :: rest → t.pos = 0)

/-- In IDLE, each of the 31 forms of LDA, LDX, LDY, STA, STX and STY answers a next state: the record {pos, mnemonic,
mode, [opcode]} is in progress and waits for 1 or 2 operand bytes, pos is one more, and nothing else changes. -/
def Obligations.LoadAndStoreStartTheirRecord : Prop :=
  WaitsForOperands .ldaXInd .LDA .XIndirect 0xA1 1 ∧
  WaitsForOperands .ldaZp .LDA .Zeropage 0xA5 1 ∧
  WaitsForOperands .ldaImm .LDA .Immediate 0xA9 1 ∧
  WaitsForOperands .ldaAbs .LDA .Absolute 0xAD 2 ∧
  WaitsForOperands .ldaIndY .LDA .IndirectY 0xB1 1 ∧
  WaitsForOperands .ldaZpX .LDA .ZeropageX 0xB5 1 ∧
  WaitsForOperands .ldaAbsY .LDA .AbsoluteY 0xB9 2 ∧
  WaitsForOperands .ldaAbsX .LDA .AbsoluteX 0xBD 2 ∧
  WaitsForOperands .ldxImm .LDX .Immediate 0xA2 1 ∧
  WaitsForOperands .ldxZp .LDX .Zeropage 0xA6 1 ∧
  WaitsForOperands .ldxAbs .LDX .Absolute 0xAE 2 ∧
  WaitsForOperands .ldxZpY .LDX .ZeropageY 0xB6 1 ∧
  WaitsForOperands .ldxAbsY .LDX .AbsoluteY 0xBE 2 ∧
  WaitsForOperands .ldyImm .LDY .Immediate 0xA0 1 ∧
  WaitsForOperands .ldyZp .LDY .Zeropage 0xA4 1 ∧
  WaitsForOperands .ldyAbs .LDY .Absolute 0xAC 2 ∧
  WaitsForOperands .ldyZpX .LDY .ZeropageX 0xB4 1 ∧
  WaitsForOperands .ldyAbsX .LDY .AbsoluteX 0xBC 2 ∧
  WaitsForOperands .staXInd .STA .XIndirect 0x81 1 ∧
  WaitsForOperands .staZp .STA .Zeropage 0x85 1 ∧
  WaitsForOperands .staAbs .STA .Absolute 0x8D 2 ∧
  WaitsForOperands .staIndY .STA .IndirectY 0x91 1 ∧
  WaitsForOperands .staZpX .STA .ZeropageX 0x95 1 ∧
  WaitsForOperands .staAbsY .STA .AbsoluteY 0x99 2 ∧
  WaitsForOperands .staAbsX .STA .AbsoluteX 0x9D 2 ∧
  WaitsForOperands .stxZp .STX .Zeropage 0x86 1 ∧
  WaitsForOperands .stxAbs .STX .Absolute 0x8E 2 ∧
  WaitsForOperands .stxZpY .STX .ZeropageY 0x96 1 ∧
  WaitsForOperands .styZp .STY .Zeropage 0x84 1 ∧
  WaitsForOperands .styAbs .STY .Absolute 0x8C 2 ∧
  WaitsForOperands .styZpX .STY .ZeropageX 0x94 1

/-- In IDLE, each of TAX, TAY, TSX, TXA, TXS and TYA answers a next state: the record {pos, mnemonic, Implied, [opcode]}
is emitted, pos is one more, and nothing else changes. -/
def Obligations.TransfersEmitTheirRecord : Prop :=
  EmitsAtOnce .tax .TAX .Implied 0xAA ∧
  EmitsAtOnce .tay .TAY .Implied 0xA8 ∧
  EmitsAtOnce .tsx .TSX .Implied 0xBA ∧
  EmitsAtOnce .txa .TXA .Implied 0x8A ∧
  EmitsAtOnce .txs .TXS .Implied 0x9A ∧
  EmitsAtOnce .tya .TYA .Implied 0x98

/-- In IDLE, each of the 48 forms of ADC, SBC, AND, EOR, ORA and CMP answers a next state: the record {pos, mnemonic,
mode, [opcode]} is in progress and waits for 1 or 2 operand bytes, pos is one more, and nothing else changes. -/
def Obligations.ArithmeticAndLogicStartTheirRecord : Prop :=
  WaitsForOperands .adcXInd .ADC .XIndirect 0x61 1 ∧
  WaitsForOperands .adcZp .ADC .Zeropage 0x65 1 ∧
  WaitsForOperands .adcImm .ADC .Immediate 0x69 1 ∧
  WaitsForOperands .adcAbs .ADC .Absolute 0x6D 2 ∧
  WaitsForOperands .adcIndY .ADC .IndirectY 0x71 1 ∧
  WaitsForOperands .adcZpX .ADC .ZeropageX 0x75 1 ∧
  WaitsForOperands .adcAbsY .ADC .AbsoluteY 0x79 2 ∧
  WaitsForOperands .adcAbsX .ADC .AbsoluteX 0x7D 2 ∧
  WaitsForOperands .sbcXInd .SBC .XIndirect 0xE1 1 ∧
  WaitsForOperands .sbcZp .SBC .Zeropage 0xE5 1 ∧
  WaitsForOperands .sbcImm .SBC .Immediate 0xE9 1 ∧
  WaitsForOperands .sbcAbs .SBC .Absolute 0xED 2 ∧
  WaitsForOperands .sbcIndY .SBC .IndirectY 0xF1 1 ∧
  WaitsForOperands .sbcZpX .SBC .ZeropageX 0xF5 1 ∧
  WaitsForOperands .sbcAbsY .SBC .AbsoluteY 0xF9 2 ∧
  WaitsForOperands .sbcAbsX .SBC .AbsoluteX 0xFD 2 ∧
  WaitsForOperands .andXInd .AND .XIndirect 0x21 1 ∧
  WaitsForOperands .andZp .AND .Zeropage 0x25 1 ∧
  WaitsForOperands .andImm .AND .Immediate 0x29 1 ∧
  WaitsForOperands .andAbs .AND .Absolute 0x2D 2 ∧
  WaitsForOperands .andIndY .AND .IndirectY 0x31 1 ∧
  WaitsForOperands .andZpX .AND .ZeropageX 0x35 1 ∧
  WaitsForOperands .andAbsY .AND .AbsoluteY 0x39 2 ∧
  WaitsForOperands .andAbsX .AND .AbsoluteX 0x3D 2 ∧
  WaitsForOperands .eorXInd .EOR .XIndirect 0x41 1 ∧
  WaitsForOperands .eorZp .EOR .Zeropage 0x45 1 ∧
  WaitsForOperands .eorImm .EOR .Immediate 0x49 1 ∧
  WaitsForOperands .eorAbs .EOR .Absolute 0x4D 2 ∧
  WaitsForOperands .eorIndY .EOR .IndirectY 0x51 1 ∧
  WaitsForOperands .eorZpX .EOR .ZeropageX 0x55 1 ∧
  WaitsForOperands .eorAbsY .EOR .AbsoluteY 0x59 2 ∧
  WaitsForOperands .eorAbsX .EOR .AbsoluteX 0x5D 2 ∧
  WaitsForOperands .oraXInd .ORA .XIndirect 0x01 1 ∧
  WaitsForOperands .oraZp .ORA .Zeropage 0x05 1 ∧
  WaitsForOperands .oraImm .ORA .Immediate 0x09 1 ∧
  WaitsForOperands .oraAbs .ORA .Absolute 0x0D 2 ∧
  WaitsForOperands .oraIndY .ORA .IndirectY 0x11 1 ∧
  WaitsForOperands .oraZpX .ORA .ZeropageX 0x15 1 ∧
  WaitsForOperands .oraAbsY .ORA .AbsoluteY 0x19 2 ∧
  WaitsForOperands .oraAbsX .ORA .AbsoluteX 0x1D 2 ∧
  WaitsForOperands .cmpXInd .CMP .XIndirect 0xC1 1 ∧
  WaitsForOperands .cmpZp .CMP .Zeropage 0xC5 1 ∧
  WaitsForOperands .cmpImm .CMP .Immediate 0xC9 1 ∧
  WaitsForOperands .cmpAbs .CMP .Absolute 0xCD 2 ∧
  WaitsForOperands .cmpIndY .CMP .IndirectY 0xD1 1 ∧
  WaitsForOperands .cmpZpX .CMP .ZeropageX 0xD5 1 ∧
  WaitsForOperands .cmpAbsY .CMP .AbsoluteY 0xD9 2 ∧
  WaitsForOperands .cmpAbsX .CMP .AbsoluteX 0xDD 2

/-- In IDLE, each form of CPX, CPY, BIT, INC and DEC answers a next state with its record in progress, and INX, INY, DEX
and DEY one with their one-byte record emitted; pos is one more, and nothing else changes. -/
def Obligations.CompareBitIncDecStartTheirRecord : Prop :=
  WaitsForOperands .cpxImm .CPX .Immediate 0xE0 1 ∧
  WaitsForOperands .cpxZp .CPX .Zeropage 0xE4 1 ∧
  WaitsForOperands .cpxAbs .CPX .Absolute 0xEC 2 ∧
  WaitsForOperands .cpyImm .CPY .Immediate 0xC0 1 ∧
  WaitsForOperands .cpyZp .CPY .Zeropage 0xC4 1 ∧
  WaitsForOperands .cpyAbs .CPY .Absolute 0xCC 2 ∧
  WaitsForOperands .bitZp .BIT .Zeropage 0x24 1 ∧
  WaitsForOperands .bitAbs .BIT .Absolute 0x2C 2 ∧
  WaitsForOperands .incZp .INC .Zeropage 0xE6 1 ∧
  WaitsForOperands .incAbs .INC .Absolute 0xEE 2 ∧
  WaitsForOperands .incZpX .INC .ZeropageX 0xF6 1 ∧
  WaitsForOperands .incAbsX .INC .AbsoluteX 0xFE 2 ∧
  WaitsForOperands .decZp .DEC .Zeropage 0xC6 1 ∧
  WaitsForOperands .decAbs .DEC .Absolute 0xCE 2 ∧
  WaitsForOperands .decZpX .DEC .ZeropageX 0xD6 1 ∧
  WaitsForOperands .decAbsX .DEC .AbsoluteX 0xDE 2 ∧
  EmitsAtOnce .inx .INX .Implied 0xE8 ∧
  EmitsAtOnce .iny .INY .Implied 0xC8 ∧
  EmitsAtOnce .dex .DEX .Implied 0xCA ∧
  EmitsAtOnce .dey .DEY .Implied 0x88

/-- In IDLE, each memory form of ASL, LSR, ROL and ROR answers a next state with its record in progress, and each
Accumulator form one with its one-byte record emitted; pos is one more, and nothing else changes. -/
def Obligations.ShiftsStartOrEmitTheirRecord : Prop :=
  WaitsForOperands .aslZp .ASL .Zeropage 0x06 1 ∧
  EmitsAtOnce .aslA .ASL .Accumulator 0x0A ∧
  WaitsForOperands .aslAbs .ASL .Absolute 0x0E 2 ∧
  WaitsForOperands .aslZpX .ASL .ZeropageX 0x16 1 ∧
  WaitsForOperands .aslAbsX .ASL .AbsoluteX 0x1E 2 ∧
  WaitsForOperands .lsrZp .LSR .Zeropage 0x46 1 ∧
  EmitsAtOnce .lsrA .LSR .Accumulator 0x4A ∧
  WaitsForOperands .lsrAbs .LSR .Absolute 0x4E 2 ∧
  WaitsForOperands .lsrZpX .LSR .ZeropageX 0x56 1 ∧
  WaitsForOperands .lsrAbsX .LSR .AbsoluteX 0x5E 2 ∧
  WaitsForOperands .rolZp .ROL .Zeropage 0x26 1 ∧
  EmitsAtOnce .rolA .ROL .Accumulator 0x2A ∧
  WaitsForOperands .rolAbs .ROL .Absolute 0x2E 2 ∧
  WaitsForOperands .rolZpX .ROL .ZeropageX 0x36 1 ∧
  WaitsForOperands .rolAbsX .ROL .AbsoluteX 0x3E 2 ∧
  WaitsForOperands .rorZp .ROR .Zeropage 0x66 1 ∧
  EmitsAtOnce .rorA .ROR .Accumulator 0x6A ∧
  WaitsForOperands .rorAbs .ROR .Absolute 0x6E 2 ∧
  WaitsForOperands .rorZpX .ROR .ZeropageX 0x76 1 ∧
  WaitsForOperands .rorAbsX .ROR .AbsoluteX 0x7E 2

/-- In IDLE, each of BCC, BCS, BEQ, BMI, BNE, BPL, BVC and BVS answers a next state: the record {pos, mnemonic,
Relative, [opcode]} is in progress and waits for 1 byte, pos is one more, and nothing else changes: no control
transfer happens. -/
def Obligations.BranchesStartTheirRecord : Prop :=
  WaitsForOperands .bcc .BCC .Relative 0x90 1 ∧
  WaitsForOperands .bcs .BCS .Relative 0xB0 1 ∧
  WaitsForOperands .beq .BEQ .Relative 0xF0 1 ∧
  WaitsForOperands .bmi .BMI .Relative 0x30 1 ∧
  WaitsForOperands .bne .BNE .Relative 0xD0 1 ∧
  WaitsForOperands .bpl .BPL .Relative 0x10 1 ∧
  WaitsForOperands .bvc .BVC .Relative 0x50 1 ∧
  WaitsForOperands .bvs .BVS .Relative 0x70 1

/-- In IDLE, JMP (both forms) and JSR answer a next state with their record waiting for 2 bytes; RTS, RTI and BRK answer
one with their one-byte record emitted: no trap is taken, nothing is restored; pos is one more, and nothing else
changes. -/
def Obligations.JumpsReturnsAndBreakAreOnlyDecoded : Prop :=
  WaitsForOperands .jmpAbs .JMP .Absolute 0x4C 2 ∧
  WaitsForOperands .jmpInd .JMP .Indirect 0x6C 2 ∧
  WaitsForOperands .jsrAbs .JSR .Absolute 0x20 2 ∧
  EmitsAtOnce .rts .RTS .Implied 0x60 ∧
  EmitsAtOnce .rti .RTI .Implied 0x40 ∧
  EmitsAtOnce .brk .BRK .Implied 0x00

/-- In IDLE, each of PHA, PHP, PLA, PLP, CLC, CLD, CLI, CLV, SEC, SED, SEI and NOP answers a next state: the record
{pos, mnemonic, Implied, [opcode]} is emitted, pos is one more, and nothing else changes: no flag, mask or mode
exists to change. -/
def Obligations.StackFlagAndNopEmitTheirRecord : Prop :=
  EmitsAtOnce .pha .PHA .Implied 0x48 ∧
  EmitsAtOnce .php .PHP .Implied 0x08 ∧
  EmitsAtOnce .pla .PLA .Implied 0x68 ∧
  EmitsAtOnce .plp .PLP .Implied 0x28 ∧
  EmitsAtOnce .clc .CLC .Implied 0x18 ∧
  EmitsAtOnce .cld .CLD .Implied 0xD8 ∧
  EmitsAtOnce .cli .CLI .Implied 0x58 ∧
  EmitsAtOnce .clv .CLV .Implied 0xB8 ∧
  EmitsAtOnce .sec .SEC .Implied 0x38 ∧
  EmitsAtOnce .sed .SED .Implied 0xF8 ∧
  EmitsAtOnce .sei .SEI .Implied 0x78 ∧
  EmitsAtOnce .nop .NOP .Implied 0xEA

/-- In IDLE, the instruction unknown b, for any byte b, answers a next state: the record {pos, Unknown, Unknown, [b]} is
emitted, pos is one more, and nothing else changes; every undefined byte decodes to it. -/
def Obligations.UnknownEmitsTheByteAsARecord : Prop :=
  (∀ b : Byte, EmitsAtOnce (.unknown b) .Unknown .Unknown b) ∧
  (∀ b : Byte, b ∈ undefinedOpcodes → decode b = .unknown b)

/-- For every byte b and every state, exec of the instruction b decodes to answers the state that the byte event gives
with OpTab(b): in IDLE a new record of OpTab(b), which is emitted when its length is 1 and otherwise waits for
length - 1 bytes. -/
def Obligations.MeaningsAgreeWithTheTable : Prop :=
  ∀ (b : Byte) (s : State),
    exec (decode b) s = .next (byteEventWith opTab b s) ∧
    (s.control = .idle → (opTab b).2.len = 1 → exec (decode b) s = .next { s with
      pos := s.pos + 1
      out := s.out ++ [{ offset := s.pos, operation := (opTab b).1, addressMode := (opTab b).2, rawBytes := [b] }]
      bus := some { offset := s.pos, operation := (opTab b).1, addressMode := (opTab b).2, rawBytes := [b] } }) ∧
    (s.control = .idle → (opTab b).2.len ≠ 1 → exec (decode b) s = .next { s with
      pos := s.pos + 1
      control := .acc { offset := s.pos, operation := (opTab b).1, addressMode := (opTab b).2, rawBytes := [b] }
        ((opTab b).2.len - 1) })

/-- In ACC, exec of any instruction answers a next state: its opcode byte is appended to cur, whose operation, mode and
offset stay; with need 1 the record is emitted and the phase becomes IDLE, with need 2 need becomes 1. It is the
model's reading of R103 (a) for exec, which step never asks for in ACC (log entry 3). -/
def Obligations.OpcodeByteInAccIsAnOperand : Prop :=
  ∀ (i : Instr) (s : State) (cur : Record) (need : Nat), s.control = .acc cur need →
    (need = 1 → exec i s = .next { s with
      control := .idle
      pos := s.pos + 1
      out := s.out ++ [{ cur with rawBytes := cur.rawBytes ++ [i.opcode] }]
      bus := some { cur with rawBytes := cur.rawBytes ++ [i.opcode] } }) ∧
    (need = 2 → exec i s = .next { s with
      control := .acc { cur with rawBytes := cur.rawBytes ++ [i.opcode] } 1
      pos := s.pos + 1 })

/-- For every instruction and every state, when exec answers a next state: the host's events and the result are
unchanged; pos is one more; either out and the record bus are unchanged and a record is in progress, or out has
exactly one record more, which is on the bus, and none is in progress. A record in progress keeps its offset,
operation and mode. The ISP has no other state: no register, flag or memory of the decoded CPU. -/
def Obligations.InstructionFrame : Prop :=
  ∀ (i : Instr) (s t : State), exec i s = .next t →
    t.input = s.input ∧ t.result = s.result ∧ t.pos = s.pos + 1 ∧
    ((∃ r n, t.control = .acc r n ∧ t.out = s.out ∧ t.bus = s.bus) ∨
      (∃ r, t.control = .idle ∧ t.out = s.out ++ [r] ∧ t.bus = some r)) ∧
    (∀ cur need, s.control = .acc cur need → ∃ r, (t.cur = some r ∨ (t.cur = none ∧ t.bus = some r)) ∧
      r.offset = cur.offset ∧ r.operation = cur.operation ∧ r.addressMode = cur.addressMode ∧
      r.rawBytes.dropLast = cur.rawBytes)

/-- From IDLE, for every well-formed instruction and any operand bytes of the right number, the len steps on its bytes
answer a next state: one record {pos, operation, mode, opcode and operand bytes} is appended to out and on the bus,
it is satisfied, pos grew by len, the phase is IDLE, and the later events are untouched. -/
def Obligations.WholeInstructionEmitsOneRecord : Prop :=
  ∀ (i : Instr) (operands : List Byte) (s : State) (later : List Event),
    i.wellFormed = true → operands.length + 1 = i.mode.len → s.control = .idle →
    s.input = byteEvents (encodeWith i operands) ++ later →
    let r : Record := { offset := s.pos, operation := i.operation, addressMode := i.mode, rawBytes := i.opcode :: operands }
    r.satisfied = true ∧
    Host.Core.run Sys2Proof.core i.mode.len s = .next
      { control := .idle, pos := s.pos + i.mode.len, out := s.out ++ [r], bus := some r, result := none, input := later }

/-- From IDLE, for every well-formed instruction and fewer operand bytes than its mode needs, the steps on those bytes
and End return out followed by the record {pos, operation, mode, the bytes there are}; it is unsatisfied, its
operand does not exist and its operand text is the missing-operands marker; the phase is IDLE, pos 0, out empty. -/
def Obligations.TruncatedInstructionIsFlushedByEnd : Prop :=
  ∀ (i : Instr) (operands : List Byte) (s : State) (later : List Event),
    i.wellFormed = true → operands.length + 1 < i.mode.len → s.control = .idle →
    s.input = byteEvents (encodeWith i operands) ++ .endInput :: later →
    let r : Record := { offset := s.pos, operation := i.operation, addressMode := i.mode, rawBytes := i.opcode :: operands }
    r.satisfied = false ∧ r.operand = none ∧ operandText defaultParams r = "*Missing operands*".toList ∧
    Host.Core.run Sys2Proof.core (operands.length + 2) s = .next
      { control := .idle, pos := 0, out := [], bus := some r, result := some (s.out ++ [r]), input := later }

/-- From IDLE, m undefined bytes make, in m steps, exactly m records {offset, Unknown, Unknown, [b]}, one per byte, at
consecutive offsets from pos on, whatever the events after them. An undefined byte that arrives in ACC is an operand
byte: it joins the record in progress. -/
def Obligations.RunOfUndefinedBytes : Prop :=
  (∀ (bs : List Byte) (s : State) (later : List Event), (∀ b ∈ bs, b ∈ undefinedOpcodes) → s.control = .idle →
    s.input = byteEvents bs ++ later →
    ∃ t, Host.Core.run Sys2Proof.core bs.length s = .next t ∧ t.control = .idle ∧ t.pos = s.pos + bs.length ∧
      t.input = later ∧
      t.out = s.out ++ bs.mapIdx fun k b =>
        { offset := s.pos + k, operation := .Unknown, addressMode := .Unknown, rawBytes := [b] }) ∧
  (∀ (s : State) (cur : Record) (need : Nat) (b : Byte) (later : List Event), b ∈ undefinedOpcodes →
    s.control = .acc cur need → s.input = .byte b :: later →
    ∃ t r, step s = .next t ∧ (t.cur = some r ∨ t.bus = some r) ∧
      r = { cur with rawBytes := cur.rawBytes ++ [b] })

/-- From the start of an invocation, after the Byte events of bs the records emitted, with the one in progress last, are
Decode(bs); and the End step after them, step n + 1 for n bytes, returns exactly Decode(bs) and leaves the reset
values, whatever events follow. -/
def Obligations.EndReturnsDecodeOfTheBytes : Prop :=
  ∀ (s : State) (bs : List Byte) (later : List Event), s.Fresh → s.input = byteEvents bs ++ .endInput :: later →
    (∃ u, Host.Core.run Sys2Proof.core bs.length s = .next u ∧ u.records = decodeStream bs ∧ u.pos = bs.length) ∧
    (∃ t, Host.Core.run Sys2Proof.core (bs.length + 1) s = .next t ∧ t.result = some (decodeStream bs) ∧
      t.Fresh ∧ t.input = later)

/-- For every opcode table and every input of n bytes, the raw bytes of the records concatenate to the input: no byte is
lost, duplicated or reordered; there are no records exactly when there are no bytes; and the number k of records
satisfies ceil(n / 3) <= k <= n. -/
def Obligations.DecodeKeepsEveryByte : Prop :=
  ∀ (tab : Byte → Operation × AddressingMode) (bs : List Byte),
    bytesOf (decodeStreamWith tab bs) = bs ∧ (decodeStreamWith tab bs = [] ↔ bs = []) ∧
    (bs.length + 2) / 3 ≤ (decodeStreamWith tab bs).length ∧ (decodeStreamWith tab bs).length ≤ bs.length

/-- For every opcode table and every input: the first record has offset 0; record i+1 starts at the offset of record i
plus its number of bytes, which is at least 1; the last record ends at the number of input bytes. -/
def Obligations.DecodeOffsetsFollowOneAnother : Prop :=
  ∀ (tab : Byte → Operation × AddressingMode) (bs : List Byte),
    let rs := decodeStreamWith tab bs
    chained 0 rs ∧ (∀ r ∈ rs, 1 ≤ r.rawBytes.length) ∧
    (∀ (k : Nat) (r q : Record), rs[k]? = some r → rs[k + 1]? = some q →
      q.offset = r.offset + r.rawBytes.length ∧ r.offset < q.offset) ∧
    (∀ r, rs.getLast? = some r → r.endPos = bs.length)

/-- For every opcode table and every input: each record has the operation and mode that the table gives its first byte;
each but the last is satisfied; the last has at most the length of its mode. -/
def Obligations.DecodeLengthsMatchTheMode : Prop :=
  ∀ (tab : Byte → Operation × AddressingMode) (bs : List Byte),
    let rs := decodeStreamWith tab bs
    (∀ r ∈ rs, r.rawBytes[0]?.map tab = some (r.operation, r.addressMode) ∧ r.rawBytes.length ≤ r.len) ∧
    (∀ r ∈ rs.dropLast, r.satisfied = true)

/-- From the start of an invocation, the records on the bus over the n + 1 steps of n bytes and End, in order, are
Decode of the bytes, which is the result of the End step; done is 1 on that step, and on none of the steps before
it. -/
def Obligations.BusRecordsAreTheResult : Prop :=
  ∀ (s : State) (bs : List Byte) (later : List Event), s.Fresh → s.input = byteEvents bs ++ .endInput :: later →
    ∃ t, Host.Core.run Sys2Proof.core (bs.length + 1) s = .next t ∧ t.done = true ∧
      t.result = some (collectBus (bs.length + 1) s) ∧ collectBus (bs.length + 1) s = decodeStream bs ∧
      ∀ k, 1 ≤ k → k ≤ bs.length → ∃ u, Host.Core.run Sys2Proof.core k s = .next u ∧ u.done = false

/-- From the start of an invocation: the bytes a, End, the bytes b, End make the last End return Decode(b), whatever a
is, also when a ends inside an instruction. -/
def Obligations.InvocationsAreIndependent : Prop :=
  ∀ (s : State) (a b : List Byte) (later : List Event), s.Fresh →
    s.input = byteEvents a ++ .endInput :: (byteEvents b ++ .endInput :: later) →
    ∃ t, Host.Core.run Sys2Proof.core (a.length + 1 + (b.length + 1)) s = .next t ∧
      t.result = some (decodeStream b) ∧ t.input = later

/-- From any state at all: the bytes a, Reset, the bytes b, End make End return Decode(b): nothing of a, nor of what was
in progress or emitted before, appears in it; and the Reset step itself emits no record. -/
def Obligations.ResetDiscardsTheInvocation : Prop :=
  ∀ (s : State) (a b : List Byte) (later : List Event),
    s.input = byteEvents a ++ .reset :: (byteEvents b ++ .endInput :: later) →
    (∃ u, Host.Core.run Sys2Proof.core (a.length + 1) s = .next u ∧ u.bus = none ∧ u.result = none ∧ u.cur = none ∧
      u.out = []) ∧
    ∃ t, Host.Core.run Sys2Proof.core (a.length + 1 + (b.length + 1)) s = .next t ∧
      t.result = some (decodeStream b) ∧ t.input = later

/-- For every opcode table with (LDA, Immediate) at A9, (LDY, Immediate) at A0 and (JSR, Absolute) at 20, Decode of A9
BD A0 BD 20 28 BA is the three records LDA at 0, LDY at 2, JSR at 4. -/
def Obligations.AnchorsAloneDecodeTheSourceExample : Prop :=
  ∀ tab : Byte → Operation × AddressingMode,
    tab 0xA9 = (.LDA, .Immediate) → tab 0xA0 = (.LDY, .Immediate) → tab 0x20 = (.JSR, .Absolute) →
    decodeStreamWith tab [0xA9, 0xBD, 0xA0, 0xBD, 0x20, 0x28, 0xBA] =
      [{ offset := 0, operation := .LDA, addressMode := .Immediate, rawBytes := [0xA9, 0xBD] },
       { offset := 2, operation := .LDY, addressMode := .Immediate, rawBytes := [0xA0, 0xBD] },
       { offset := 4, operation := .JSR, addressMode := .Absolute, rawBytes := [0x20, 0x28, 0xBA] }]

/-- State.reset meets the invariant of the ISP, and its records are Decode of the bytes consumed (none). -/
def Obligations.ResetMeetsTheInvariant : Prop :=
  State.reset.Inv ∧ State.reset.DecodesItsBytes

/-- For every state that meets the invariant, on any event, the next state meets it: the records in out are well formed,
satisfied and follow one another from offset 0; in IDLE pos counts the bytes of out; in ACC, cur is well formed,
starts where out ends, need = Len - len is 1 or 2, and pos counts the bytes of cur as well. -/
def Obligations.StepKeepsTheInvariant : Prop :=
  ∀ s t : State, s.Inv → step s = .next t → t.Inv

/-- For every state that meets the invariant and whose records are Decode of the bytes they hold, on any event, the same
holds of the next state. Those bytes are the bytes consumed: a step on byte b puts exactly b after the bytes of the
records, a step with no event leaves them, and a step on End or Reset leaves no record and no byte. -/
def Obligations.StepKeepsDecodeOfTheConsumedBytes : Prop :=
  ∀ s t : State, s.Inv → s.DecodesItsBytes → step s = .next t →
    t.DecodesItsBytes ∧
    (∀ b rest, s.input = .byte b :: rest → bytesOf t.records = bytesOf s.records ++ [b]) ∧
    (s.input = [] → bytesOf t.records = bytesOf s.records) ∧
    (∀ rest, s.input = .endInput :: rest ∨ s.input = .reset :: rest → t.records = [] ∧ bytesOf t.records = [])

/-- From a state that meets the invariant, for the result of an End step: (1) each record has 1 to length bytes, and
fewer than length only if it is the last; (2) its operation is Unknown exactly when its mode is, and then it has 1
byte; (3) its operation and mode are OpTab of its first byte; (4) each record but the last is satisfied; (5) each
starts where the one before it ends, the first at 0. -/
def Obligations.ResultRecordsAreWellFormed : Prop :=
  ∀ (s t : State) (rs : List Record), s.Inv → step s = .next t → t.result = some rs →
    (∀ r ∈ rs, 1 ≤ r.rawBytes.length ∧ r.rawBytes.length ≤ r.len ∧
      (r.operation = .Unknown ↔ r.addressMode = .Unknown) ∧ (r.operation = .Unknown → r.rawBytes.length = 1) ∧
      r.rawBytes[0]?.map opTab = some (r.operation, r.addressMode)) ∧
    (∀ r ∈ rs.dropLast, r.rawBytes.length = r.len) ∧
    (∀ (k : Nat) (r q : Record), rs[k]? = some r → rs[k + 1]? = some q → q.offset = r.offset + r.rawBytes.length) ∧
    (∀ r, rs[0]? = some r → r.offset = 0)

/-- In any state, if the step on a byte emits a record then the End step right after it emits none; and of two such
steps the End step returns the result. -/
def Obligations.AtMostOneRecordPerClockEdge : Prop :=
  ∀ (s : State) (b : Byte) (later : List Event), s.input = .byte b :: .endInput :: later →
    ∃ t u, step s = .next t ∧ step t = .next u ∧ (t.bus.isSome = true → u.bus = none) ∧
      (t.bus = none → u.bus = t.cur ∧ u.bus.isSome = true) ∧ t.done = false ∧ u.done = true

/-- With rst, an edge discards a byte or end on it, leaves the reset state and puts out nothing. Without rst, a valid
byte with in_end is the byte and then End: the byte belongs to the invocation that End closes, so the result is that
of the byte event followed by End. The outputs of such a shared edge are the model's choice (log entry 12): done is
1, and rec_valid is 1 with the one record on the bus that either of the two steps emits. -/
def Obligations.PriorityOnOneClockEdge : Prop :=
  (∀ (e : Edge) (s : State), e.rst = true → clockEdge e s = .next
    ({ control := .idle, pos := 0, out := [], bus := none, result := none, input := s.input },
     { recValid := false, bus := none, done := false })) ∧
  (∀ (b : Byte) (s : State), ∃ t u o, step { s with input := [.byte b, .endInput] } = .next t ∧ step t = .next u ∧
    clockEdge { rst := false, inValid := true, inByte := b, inEnd := true } s = .next ({ u with input := s.input }, o) ∧
    u.result = some t.records ∧ bytesOf t.records = bytesOf s.records ++ [b] ∧ o.done = true ∧ o.recValid = true ∧
    ∃ r, (t.bus = some r ∨ u.bus = some r) ∧ o.bus = some { wires := recordWires r, recSat := r.satisfied })

/-- Without rst: an edge with in_valid alone is the step on Byte(in_byte), with in_end alone the step on End, with
neither the step with no event, which holds the state; the outputs are those of that step: rec_valid is 1 exactly
when a record is emitted, the record bus then carries its codes, its bytes, its count and rec_sat, and done is 1
with End alone. -/
def Obligations.EdgesWithOneEventOrNone : Prop :=
  ∀ (e : Edge) (s : State), e.rst = false →
    (e.inValid = true → e.inEnd = false → EdgeIsTheStepOn [.byte e.inByte] false e s) ∧
    (e.inValid = false → e.inEnd = true → EdgeIsTheStepOn [.endInput] true e s) ∧
    (e.inValid = false → e.inEnd = false → EdgeIsTheStepOn [] false e s ∧
      ∃ o, clockEdge e s = .next ({ s with bus := none, result := none }, o) ∧ o.recValid = false ∧ o.bus = none)

/-- The code of an operation is the index of its name in the order ADC to TYA, Unknown = 56, and codes 57 to 63 name
none; the code of a mode is its index in the source's order, Unknown = 13, and codes 14 and 15 name none; each code
names back its constructor. -/
def Obligations.EnumerationCodesAreABijection : Prop :=
  (∀ op : Operation, operationOfCode (operationCode op) = some op) ∧
  (∀ m : AddressingMode, modeOfCode (modeCode m) = some m) ∧
  operationTable.map (fun op => (operationCode op).toNat) = List.range 57 ∧
  modeTable.map (fun m => (modeCode m).toNat) = List.range 14 ∧
  operationTable.map (fun op => String.ofList (mnemonicText op)) =
    ["ADC", "AND", "ASL", "BCC", "BCS", "BEQ", "BIT", "BMI", "BNE", "BPL", "BRK", "BVC", "BVS", "CLC", "CLD", "CLI",
     "CLV", "CMP", "CPX", "CPY", "DEC", "DEX", "DEY", "EOR", "INC", "INX", "INY", "JMP", "JSR", "LDA", "LDX", "LDY"] ++
    ["LSR", "NOP", "ORA", "PHA", "PHP", "PLA", "PLP", "ROL", "ROR", "RTI", "RTS", "SBC", "SEC", "SED", "SEI", "STA",
     "STX", "STY", "TAX", "TAY", "TSX", "TXA", "TXS", "TYA", "???"] ∧
  modeTable = [.Accumulator, .Absolute, .AbsoluteX, .AbsoluteY, .Immediate, .Implied, .Indirect, .XIndirect, .IndirectY,
    .Relative, .Zeropage, .ZeropageX, .ZeropageY, .Unknown] ∧
  (∀ c : BitVec 6, 57 ≤ c.toNat → operationOfCode c = none) ∧ (∀ c : BitVec 4, 14 ≤ c.toNat → modeOfCode c = none)

/-- In every state that meets the invariant, the registers on wires (phase 1 bit, need 2 bits, operation 6 bits, mode 4
bits, three byte registers with a 2-bit count, offset, pos) determine phase, cur, need and pos. -/
def Obligations.RegistersOnWiresLoseNothing : Prop :=
  ∀ s : State, s.Inv → controlOfWires (stateWires s) = some s.control ∧ (stateWires s).pos = s.pos ∧
    ((stateWires s).phase = 0 ↔ s.phase = .IDLE)

/-- For an implementation with W offset bits: a Byte event when pos = 2^W - 1 is refused by name; every other event, and
a Byte at any other pos, does what the unbounded ISP does. -/
def Obligations.FiniteOffsetRefusesOnlyTheLastPosition : Prop :=
  ∀ (w : Nat) (s : State),
    (∀ b rest, s.input = .byte b :: rest → s.pos = 2 ^ w - 1 → stepWith (some w) s = .refused .offsetExhausted) ∧
    ((∀ b rest, s.input = .byte b :: rest → s.pos ≠ 2 ^ w - 1) → stepWith (some w) s = step s)

/-- For a satisfied record in Absolute, AbsoluteX, AbsoluteY or Indirect mode with the bytes [opcode, lo, hi], w16
exists and is hi * 256 + lo: its bits 15:8 are hi and its bits 7:0 are lo. 20 28 BA has w16 = BA28. -/
def Obligations.Operand16IsLittleEndian : Prop :=
  (∀ (off : Nat) (op : Operation) (m : AddressingMode) (b lo hi : Byte),
    (m = .Absolute ∨ m = .AbsoluteX ∨ m = .AbsoluteY ∨ m = .Indirect) →
    ∃ w : Word, Record.w16 { offset := off, operation := op, addressMode := m, rawBytes := [b, lo, hi] } = some w ∧
      w.toNat = hi.toNat * 256 + lo.toNat ∧ w.extractLsb' 8 8 = hi ∧ w.extractLsb' 0 8 = lo) ∧
  Record.w16 { offset := 0, operation := .JSR, addressMode := .Absolute, rawBytes := [0x20, 0x28, 0xBA] } = some 0xBA28

/-- For a satisfied Relative record, target is (offset + 2 + sext_8(o8)) mod 2^16, at any offset, also from 2^16 on; the
hardware form, one 16-bit adder on offset[15:0], gives the same value; a truncated Relative record has no target. F0
FF at offset 0 gives 0001. -/
def Obligations.RelativeTargetFormula : Prop :=
  (∀ (off : Nat) (op : Operation) (b o8 : Byte), ∃ w : Word,
    Record.target { offset := off, operation := op, addressMode := .Relative, rawBytes := [b, o8] } = some w ∧
    (w.toNat : Int) = ((off : Int) + 2 + sext8 o8) % 65536 ∧
    w = BitVec.ofNat 16 (off % 65536) + 2 + o8.signExtend 16) ∧
  (∀ (off : Nat) (op : Operation) (b : Byte),
    Record.target { offset := off, operation := op, addressMode := .Relative, rawBytes := [b] } = none) ∧
  branchTarget 0 0xFF = 1

/-- sext_8(b) is b when b < 128 and b - 256 when b >= 128, its range is -128..127, and it is the byte read as two's
complement; zext_16(b) is b itself. -/
def Obligations.SignExtensionRange : Prop :=
  ∀ b : Byte, (b.toNat < 128 → sext8 b = b.toNat) ∧ (128 ≤ b.toNat → sext8 b = (b.toNat : Int) - 256) ∧
    -128 ≤ sext8 b ∧ sext8 b ≤ 127 ∧ sext8 b = b.toInt ∧ (b.setWidth 16).toNat = b.toNat

/-- For a satisfied record, o8 is raw_bytes[1] when the length is 2 or more, lo and hi are raw_bytes[1] and raw_bytes[2]
when it is 3, and it has an operand form. For Implied and Unknown, which have no operand, that form is the model's
own (log entry 25). For an unsatisfied record no operand value and no form exists, and its text is the missing-
operands marker. -/
def Obligations.OperandsExistOnlyWhenSatisfied : Prop :=
  ∀ r : Record,
    (r.satisfied = true → (2 ≤ r.len → ∃ b, r.o8 = some b ∧ r.rawBytes[1]? = some b) ∧
      (r.len = 3 → ∃ lo hi, r.lo = some lo ∧ r.hi = some hi ∧ r.rawBytes[1]? = some lo ∧ r.rawBytes[2]? = some hi) ∧
      r.operand.isSome = true) ∧
    (r.satisfied = false → r.o8 = none ∧ r.lo = none ∧ r.hi = none ∧ r.w16 = none ∧ r.target = none ∧ r.operand = none ∧
      ∀ p : RenderParams, operandText p r = p.missingMarker)

/-- Implied: empty. Accumulator: A. Immediate: #$ and 2 digits. Zeropage, ZeropageX, ZeropageY: $ and 2 digits, then
nothing, ,X or ,Y. Absolute, AbsoluteX, AbsoluteY: $ and 4 digits of hi:lo, then nothing, ,X or ,Y. Indirect
($yyxx), XIndirect ($xx,X), IndirectY ($xx),Y. Relative: $ and 4 digits of the target. hex2 of a byte is 2 upper-
case hexadecimal digits whose value is the byte, hex4 of a 16-bit value 4 of them whose value is that value. -/
def Obligations.OperandTextOfEachMode : Prop :=
  (∀ (p : RenderParams) (off : Nat) (op : Operation) (b x y : Byte),
    operandText p ⟨off, op, .Implied, [b]⟩ = [] ∧
    operandText p ⟨off, op, .Accumulator, [b]⟩ = "A".toList ∧
    operandText p ⟨off, op, .Immediate, [b, x]⟩ = "#$".toList ++ hex2 x ∧
    operandText p ⟨off, op, .Zeropage, [b, x]⟩ = "$".toList ++ hex2 x ∧
    operandText p ⟨off, op, .ZeropageX, [b, x]⟩ = "$".toList ++ hex2 x ++ ",X".toList ∧
    operandText p ⟨off, op, .ZeropageY, [b, x]⟩ = "$".toList ++ hex2 x ++ ",Y".toList ∧
    operandText p ⟨off, op, .Absolute, [b, x, y]⟩ = "$".toList ++ hex2 y ++ hex2 x ∧
    operandText p ⟨off, op, .AbsoluteX, [b, x, y]⟩ = "$".toList ++ hex2 y ++ hex2 x ++ ",X".toList ∧
    operandText p ⟨off, op, .AbsoluteY, [b, x, y]⟩ = "$".toList ++ hex2 y ++ hex2 x ++ ",Y".toList ∧
    operandText p ⟨off, op, .Indirect, [b, x, y]⟩ = "($".toList ++ hex2 y ++ hex2 x ++ ")".toList ∧
    operandText p ⟨off, op, .XIndirect, [b, x]⟩ = "($".toList ++ hex2 x ++ ",X)".toList ∧
    operandText p ⟨off, op, .IndirectY, [b, x]⟩ = "($".toList ++ hex2 x ++ "),Y".toList ∧
    operandText p ⟨off, op, .Relative, [b, x]⟩ = "$".toList ++ hex4 (branchTarget off x) ∧
    (hex4 (branchTarget off x)).length = 4) ∧
  (∀ x : Byte, (hex2 x).length = 2 ∧ (∀ c ∈ hex2 x, isHexDigit c = true) ∧ textValue 16 (hex2 x) = x.toNat) ∧
  (∀ w : Word, (hex4 w).length = 4 ∧ (∀ c ∈ hex4 w, isHexDigit c = true) ∧ textValue 16 (hex4 w) = w.toNat)

/-- The text of an offset v is upper-case hexadecimal digits whose value is v; it has exactly 4 digits when v < 10000h,
and no leading 0 from 10000h on; so two offsets never have the same text. -/
def Obligations.OffsetTextIsNeverTruncated : Prop :=
  (∀ v : Nat, (∀ c ∈ hexOffset v, isHexDigit c = true) ∧ textValue 16 (hexOffset v) = v ∧ 4 ≤ (hexOffset v).length ∧
    (v < 0x10000 → (hexOffset v).length = 4) ∧ (0x10000 ≤ v → (hexOffset v).head? ≠ some '0')) ∧
  (∀ v : Nat, offsetField defaultParams v = hexOffset v) ∧ (∀ v w : Nat, hexOffset v = hexOffset w → v = w) ∧
  hexOffset 0 = "0000".toList ∧ hexOffset 0x2A = "002A".toList ∧ hexOffset 0x12345 = "12345".toList

/-- For an Unknown record of the byte b, the operand text is ;% then 8 binary digits, most significant bit first, whose
value is b, then 'c' with the ASCII character of b when 32 <= b <= 126 and nothing otherwise, with nothing between. -/
def Obligations.UnknownTextShowsTheByte : Prop :=
  ∀ (off : Nat) (op : Operation) (b : Byte),
    operandText defaultParams ⟨off, op, .Unknown, [b]⟩ =
      ";%".toList ++ bin8 b ++
        (if 32 ≤ b.toNat ∧ b.toNat ≤ 126 then ['\'', Char.ofNat b.toNat, '\''] else []) ∧
    (bin8 b).length = 8 ∧ (∀ c ∈ bin8 b, c = '0' ∨ c = '1') ∧ textValue 2 (bin8 b) = b.toNat

/-- For every record the ISP can emit (1 to 3 bytes): bytes_hex is hex2 of each byte in order, joined by single spaces,
2, 5 or 8 characters; the part before the mnemonic is the offset text, 3 spaces, bytes_hex, spaces on its right up
to 8 columns, and 6 spaces; the offset text is hex4 of the offset, below 10000h whatever the parameters of the text,
and that part is then 21 characters; and the line is that part, the mnemonic, one space and the operand text. -/
def Obligations.MnemonicStartsInColumn22 : Prop :=
  ∀ r : Record, 1 ≤ r.rawBytes.length → r.rawBytes.length ≤ 3 →
    bytesHex r = List.intercalate [' '] (r.rawBytes.map hex2) ∧ (bytesHex r).length = 3 * r.rawBytes.length - 1 ∧
    (∀ p : RenderParams, linePrefix p r =
      offsetField p r.offset ++ List.replicate 3 ' ' ++
        (bytesHex r ++ List.replicate (8 - (bytesHex r).length) ' ') ++ List.replicate 6 ' ') ∧
    offsetField defaultParams r.offset = hexOffset r.offset ∧
    (∀ p : RenderParams, r.offset < 0x10000 →
      offsetField p r.offset = hexOffset r.offset ∧ (linePrefix p r).length = 21) ∧
    line r = linePrefix defaultParams r ++ mnemonicText r.operation ++ ' ' :: operandText defaultParams r ∧
    (mnemonicText r.operation).length = 3

/-- A9 BD A0 BD 20 28 BA disassembles to exactly the three lines of V1; F0 FF to a branch to $0001; FF to ???
;%11111111; 20 28 to a JSR with the missing-operands marker; the empty input to no line. -/
def Obligations.SourceExampleListing : Prop :=
  listing [0xA9, 0xBD, 0xA0, 0xBD, 0x20, 0x28, 0xBA] =
    ["0000   A9 BD         LDA #$BD".toList, "0002   A0 BD         LDY #$BD".toList,
     "0004   20 28 BA      JSR $BA28".toList] ∧
  listing [0xF0, 0xFF] = ["0000   F0 FF         BEQ $0001".toList] ∧
  listing [0xFF] = ["0000   FF            ??? ;%11111111".toList] ∧
  listing [0x20, 0x28] = ["0000   20 28         JSR *Missing operands*".toList] ∧
  listing [] = []
end

