-- ==== Sys2Proof/Laws/State.lean ====
section
/-! SUPPORT. What each named update of the state does to each field, one lemma per field, so that no proof unfolds a record
update. -/

namespace Sys2Proof.Machine

section Emit
variable (r : Record) (s : State)

@[simp] theorem emit_control : (emit r s).control = s.control := rfl
@[simp] theorem emit_pos : (emit r s).pos = s.pos := rfl
@[simp] theorem emit_out : (emit r s).out = s.out ++ [r] := rfl
@[simp] theorem emit_bus : (emit r s).bus = some r := rfl
@[simp] theorem emit_result : (emit r s).result = s.result := rfl
@[simp] theorem emit_input : (emit r s).input = s.input := rfl
end Emit

section Fetched
variable (s : State) (rest : List Event)

@[simp] theorem State.fetched_control : (s.fetched rest).control = s.control := rfl
@[simp] theorem State.fetched_pos : (s.fetched rest).pos = s.pos := rfl
@[simp] theorem State.fetched_out : (s.fetched rest).out = s.out := rfl
@[simp] theorem State.fetched_bus : (s.fetched rest).bus = none := rfl
@[simp] theorem State.fetched_result : (s.fetched rest).result = none := rfl
@[simp] theorem State.fetched_input : (s.fetched rest).input = rest := rfl
@[simp] theorem State.fetched_records : (s.fetched rest).records = s.records := rfl
@[simp] theorem State.fetched_cur : (s.fetched rest).cur = s.cur := rfl
end Fetched

section Hold
variable (s : State)

@[simp] theorem holdState_control : (holdState s).control = s.control := rfl
@[simp] theorem holdState_pos : (holdState s).pos = s.pos := rfl
@[simp] theorem holdState_out : (holdState s).out = s.out := rfl
@[simp] theorem holdState_bus : (holdState s).bus = none := rfl
@[simp] theorem holdState_result : (holdState s).result = none := rfl
@[simp] theorem holdState_input : (holdState s).input = s.input := rfl
end Hold

section EndEvent
variable (s : State)

@[simp] theorem endEvent_control : (endEvent s).control = .idle := rfl
@[simp] theorem endEvent_pos : (endEvent s).pos = 0 := rfl
@[simp] theorem endEvent_out : (endEvent s).out = [] := rfl
@[simp] theorem endEvent_bus : (endEvent s).bus = s.cur := rfl
@[simp] theorem endEvent_result : (endEvent s).result = some s.records := rfl
@[simp] theorem endEvent_input : (endEvent s).input = s.input := rfl
end EndEvent

section ResetEvent
variable (s : State)

@[simp] theorem resetEvent_control : (resetEvent s).control = .idle := rfl
@[simp] theorem resetEvent_pos : (resetEvent s).pos = 0 := rfl
@[simp] theorem resetEvent_out : (resetEvent s).out = [] := rfl
@[simp] theorem resetEvent_bus : (resetEvent s).bus = none := rfl
@[simp] theorem resetEvent_result : (resetEvent s).result = none := rfl
@[simp] theorem resetEvent_input : (resetEvent s).input = s.input := rfl
end ResetEvent

section Place
variable (s : State) (bytes : List Byte)

@[simp] theorem placeBytes_control : (placeBytes s bytes).control = .idle := rfl
@[simp] theorem placeBytes_pos : (placeBytes s bytes).pos = s.pos := rfl
@[simp] theorem placeBytes_out : (placeBytes s bytes).out = s.out := rfl
@[simp] theorem placeBytes_bus : (placeBytes s bytes).bus = s.bus := rfl
@[simp] theorem placeBytes_result : (placeBytes s bytes).result = s.result := rfl
@[simp] theorem placeBytes_input :
    (placeBytes s bytes).input = (instrBytes bytes).map .byte ++ s.input := rfl
end Place

section Records
variable (pos : Nat) (op : Operation) (mode : AddressingMode) (b : Byte) (r : Record)

@[simp] theorem newRecord_offset : (newRecord pos op mode b).offset = pos := rfl
@[simp] theorem newRecord_operation : (newRecord pos op mode b).operation = op := rfl
@[simp] theorem newRecord_addressMode : (newRecord pos op mode b).addressMode = mode := rfl
@[simp] theorem newRecord_rawBytes : (newRecord pos op mode b).rawBytes = [b] := rfl
@[simp] theorem newRecord_len : (newRecord pos op mode b).len = mode.len := rfl
@[simp] theorem Record.append_offset : (r.append b).offset = r.offset := rfl
@[simp] theorem Record.append_operation : (r.append b).operation = r.operation := rfl
@[simp] theorem Record.append_addressMode : (r.append b).addressMode = r.addressMode := rfl
@[simp] theorem Record.append_rawBytes : (r.append b).rawBytes = r.rawBytes ++ [b] := rfl
@[simp] theorem Record.append_len : (r.append b).len = r.len := rfl
end Records

/-- A record is satisfied exactly when it has as many bytes as its mode asks for (10_state.md R25). -/
theorem Record.satisfied_iff (r : Record) : r.satisfied = true ↔ r.rawBytes.length = r.len := by
  simp [Record.satisfied]

theorem State.records_idle {s : State} (h : s.control = .idle) : s.records = s.out := by
  simp [State.records, h]

theorem State.records_acc {s : State} {cur : Record} {need : Nat} (h : s.control = .acc cur need) :
    s.records = s.out ++ [cur] := by
  simp [State.records, h]

theorem State.cur_idle {s : State} (h : s.control = .idle) : s.cur = none := by simp [State.cur, h]

theorem State.cur_acc {s : State} {cur : Record} {need : Nat} (h : s.control = .acc cur need) : s.cur = some cur := by
  simp [State.cur, h]

end Sys2Proof.Machine
end

