-- ==== Sys2Proof/Laws/Ops.lean ====
section
/-! SUPPORT. Everything each shared operation can do, said once; and every meaning as the one operation it is an instance of. -/

namespace Sys2Proof.Machine

/-- Every mode has a length of 1, 2 or 3 (30_encoding.md R61). -/
theorem AddressingMode.len_cases (m : AddressingMode) : m.len = 1 ∨ m.len = 2 ∨ m.len = 3 := by
  cases m <;> simp [AddressingMode.len]

theorem AddressingMode.len_pos (m : AddressingMode) : 1 ≤ m.len := by
  rcases AddressingMode.len_cases m with h | h | h <;> omega

theorem AddressingMode.len_le (m : AddressingMode) : m.len ≤ 3 := by
  rcases AddressingMode.len_cases m with h | h | h <;> omega

/-- Starting a record of length 1 emits it (40_parser.md R102). -/
theorem startRecord_one {mode : AddressingMode} (h : mode.len = 1) (op : Operation) (b : Byte) (s : State) :
    startRecord op mode b s =
      { s with pos := s.pos + 1, out := s.out ++ [newRecord s.pos op mode b], bus := some (newRecord s.pos op mode b) } := by
  simp [startRecord, h, emit]

/-- Starting a longer record waits for its operand bytes (40_parser.md R102). -/
theorem startRecord_more {mode : AddressingMode} (h : mode.len ≠ 1) (op : Operation) (b : Byte) (s : State) :
    startRecord op mode b s =
      { s with pos := s.pos + 1, control := .acc (newRecord s.pos op mode b) (mode.len - 1) } := by
  simp [startRecord, h]

/-- The last operand byte emits the record (40_parser.md R103). -/
theorem appendOperand_last (cur : Record) (b : Byte) (s : State) :
    appendOperand cur 1 b s =
      { s with pos := s.pos + 1, control := .idle, out := s.out ++ [cur.append b], bus := some (cur.append b) } := by
  simp [appendOperand, emit]

/-- An operand byte that is not the last leaves one to come (40_parser.md R103). -/
theorem appendOperand_more {need : Nat} (h : need ≠ 1) (cur : Record) (b : Byte) (s : State) :
    appendOperand cur need b s = { s with pos := s.pos + 1, control := .acc (cur.append b) 1 } := by
  simp [appendOperand, h]

theorem opcodeEvent_idle {s : State} (h : s.control = .idle) (op : Operation) (mode : AddressingMode) (b : Byte) :
    opcodeEvent op mode b s = startRecord op mode b s := by
  simp [opcodeEvent, h]

theorem opcodeEvent_acc {s : State} {cur : Record} {need : Nat} (h : s.control = .acc cur need) (op : Operation)
    (mode : AddressingMode) (b : Byte) : opcodeEvent op mode b s = appendOperand cur need b s := by
  simp [opcodeEvent, h]

/-- Everything a `Byte` event can do: one byte more in `pos`; the host's other events and the result as they were; and either
no record emitted (`out` and the bus as they were, now in `ACC`), or one, appended to `out` and put on the bus. -/
theorem opcodeEvent_cases (op : Operation) (mode : AddressingMode) (b : Byte) (s : State) :
    (opcodeEvent op mode b s).pos = s.pos + 1 ∧ (opcodeEvent op mode b s).input = s.input ∧
    (opcodeEvent op mode b s).result = s.result ∧
    ((∃ r n, (opcodeEvent op mode b s).control = .acc r n ∧ (opcodeEvent op mode b s).out = s.out ∧
        (opcodeEvent op mode b s).bus = s.bus) ∨
      (∃ r, (opcodeEvent op mode b s).control = .idle ∧ (opcodeEvent op mode b s).out = s.out ++ [r] ∧
        (opcodeEvent op mode b s).bus = some r)) := by
  cases h : s.control with
  | idle =>
    rw [opcodeEvent_idle h]
    by_cases h1 : mode.len = 1
    · simp [startRecord_one h1, h]
    · simp [startRecord_more h1]
  | acc cur need =>
    rw [opcodeEvent_acc h]
    by_cases h1 : need = 1
    · subst h1; simp [appendOperand_last]
    · simp [appendOperand_more h1]

/-- Every meaning is the one shared operation at its row's operation, mode and opcode: the meanings, written one by one from
the family files, agree with the table of 30_encoding.md R63. -/
theorem exec_eq (i : Instr) (s : State) : exec i s = runOpcode i.operation i.mode i.opcode s := by
  cases i <;> rfl

end Sys2Proof.Machine
end

