-- ==== Sys2Proof/Laws/PerInstr.lean ====
section
/-! SUPPORT. Statements about every instruction as syntax, one lemma per constructor. -/

namespace Sys2Proof.Laws

/-- The mode of an instruction has a length of 1 to 3 bytes (30_encoding.md R61), and its operation is `Unknown` exactly
when its mode is (30_encoding.md R65). -/
def OpcodeRow.Statement (i : Instr) : Prop :=
  1 ≤ i.mode.len ∧ i.mode.len ≤ 3 ∧ (i.operation = .Unknown ↔ i.mode = .Unknown)

/-- The statement holds of every instruction. -/
theorem OpcodeRow.every (i : Instr) : OpcodeRow.Statement i := by
  cases i <;> simp [OpcodeRow.Statement, Instr.mode, Instr.operation, AddressingMode.len]

theorem OpcodeRow.brk : OpcodeRow.Statement .brk := OpcodeRow.every _
theorem OpcodeRow.oraXInd : OpcodeRow.Statement .oraXInd := OpcodeRow.every _
theorem OpcodeRow.oraZp : OpcodeRow.Statement .oraZp := OpcodeRow.every _
theorem OpcodeRow.aslZp : OpcodeRow.Statement .aslZp := OpcodeRow.every _
theorem OpcodeRow.php : OpcodeRow.Statement .php := OpcodeRow.every _
theorem OpcodeRow.oraImm : OpcodeRow.Statement .oraImm := OpcodeRow.every _
theorem OpcodeRow.aslA : OpcodeRow.Statement .aslA := OpcodeRow.every _
theorem OpcodeRow.oraAbs : OpcodeRow.Statement .oraAbs := OpcodeRow.every _
theorem OpcodeRow.aslAbs : OpcodeRow.Statement .aslAbs := OpcodeRow.every _
theorem OpcodeRow.bpl : OpcodeRow.Statement .bpl := OpcodeRow.every _
theorem OpcodeRow.oraIndY : OpcodeRow.Statement .oraIndY := OpcodeRow.every _
theorem OpcodeRow.oraZpX : OpcodeRow.Statement .oraZpX := OpcodeRow.every _
theorem OpcodeRow.aslZpX : OpcodeRow.Statement .aslZpX := OpcodeRow.every _
theorem OpcodeRow.clc : OpcodeRow.Statement .clc := OpcodeRow.every _
theorem OpcodeRow.oraAbsY : OpcodeRow.Statement .oraAbsY := OpcodeRow.every _
theorem OpcodeRow.oraAbsX : OpcodeRow.Statement .oraAbsX := OpcodeRow.every _
theorem OpcodeRow.aslAbsX : OpcodeRow.Statement .aslAbsX := OpcodeRow.every _
theorem OpcodeRow.jsrAbs : OpcodeRow.Statement .jsrAbs := OpcodeRow.every _
theorem OpcodeRow.andXInd : OpcodeRow.Statement .andXInd := OpcodeRow.every _
theorem OpcodeRow.bitZp : OpcodeRow.Statement .bitZp := OpcodeRow.every _
theorem OpcodeRow.andZp : OpcodeRow.Statement .andZp := OpcodeRow.every _
theorem OpcodeRow.rolZp : OpcodeRow.Statement .rolZp := OpcodeRow.every _
theorem OpcodeRow.plp : OpcodeRow.Statement .plp := OpcodeRow.every _
theorem OpcodeRow.andImm : OpcodeRow.Statement .andImm := OpcodeRow.every _
theorem OpcodeRow.rolA : OpcodeRow.Statement .rolA := OpcodeRow.every _
theorem OpcodeRow.bitAbs : OpcodeRow.Statement .bitAbs := OpcodeRow.every _
theorem OpcodeRow.andAbs : OpcodeRow.Statement .andAbs := OpcodeRow.every _
theorem OpcodeRow.rolAbs : OpcodeRow.Statement .rolAbs := OpcodeRow.every _
theorem OpcodeRow.bmi : OpcodeRow.Statement .bmi := OpcodeRow.every _
theorem OpcodeRow.andIndY : OpcodeRow.Statement .andIndY := OpcodeRow.every _
theorem OpcodeRow.andZpX : OpcodeRow.Statement .andZpX := OpcodeRow.every _
theorem OpcodeRow.rolZpX : OpcodeRow.Statement .rolZpX := OpcodeRow.every _
theorem OpcodeRow.sec : OpcodeRow.Statement .sec := OpcodeRow.every _
theorem OpcodeRow.andAbsY : OpcodeRow.Statement .andAbsY := OpcodeRow.every _
theorem OpcodeRow.andAbsX : OpcodeRow.Statement .andAbsX := OpcodeRow.every _
theorem OpcodeRow.rolAbsX : OpcodeRow.Statement .rolAbsX := OpcodeRow.every _
theorem OpcodeRow.rti : OpcodeRow.Statement .rti := OpcodeRow.every _
theorem OpcodeRow.eorXInd : OpcodeRow.Statement .eorXInd := OpcodeRow.every _
theorem OpcodeRow.eorZp : OpcodeRow.Statement .eorZp := OpcodeRow.every _
theorem OpcodeRow.lsrZp : OpcodeRow.Statement .lsrZp := OpcodeRow.every _
theorem OpcodeRow.pha : OpcodeRow.Statement .pha := OpcodeRow.every _
theorem OpcodeRow.eorImm : OpcodeRow.Statement .eorImm := OpcodeRow.every _
theorem OpcodeRow.lsrA : OpcodeRow.Statement .lsrA := OpcodeRow.every _
theorem OpcodeRow.jmpAbs : OpcodeRow.Statement .jmpAbs := OpcodeRow.every _
theorem OpcodeRow.eorAbs : OpcodeRow.Statement .eorAbs := OpcodeRow.every _
theorem OpcodeRow.lsrAbs : OpcodeRow.Statement .lsrAbs := OpcodeRow.every _
theorem OpcodeRow.bvc : OpcodeRow.Statement .bvc := OpcodeRow.every _
theorem OpcodeRow.eorIndY : OpcodeRow.Statement .eorIndY := OpcodeRow.every _
theorem OpcodeRow.eorZpX : OpcodeRow.Statement .eorZpX := OpcodeRow.every _
theorem OpcodeRow.lsrZpX : OpcodeRow.Statement .lsrZpX := OpcodeRow.every _
theorem OpcodeRow.cli : OpcodeRow.Statement .cli := OpcodeRow.every _
theorem OpcodeRow.eorAbsY : OpcodeRow.Statement .eorAbsY := OpcodeRow.every _
theorem OpcodeRow.eorAbsX : OpcodeRow.Statement .eorAbsX := OpcodeRow.every _
theorem OpcodeRow.lsrAbsX : OpcodeRow.Statement .lsrAbsX := OpcodeRow.every _
theorem OpcodeRow.rts : OpcodeRow.Statement .rts := OpcodeRow.every _
theorem OpcodeRow.adcXInd : OpcodeRow.Statement .adcXInd := OpcodeRow.every _
theorem OpcodeRow.adcZp : OpcodeRow.Statement .adcZp := OpcodeRow.every _
theorem OpcodeRow.rorZp : OpcodeRow.Statement .rorZp := OpcodeRow.every _
theorem OpcodeRow.pla : OpcodeRow.Statement .pla := OpcodeRow.every _
theorem OpcodeRow.adcImm : OpcodeRow.Statement .adcImm := OpcodeRow.every _
theorem OpcodeRow.rorA : OpcodeRow.Statement .rorA := OpcodeRow.every _
theorem OpcodeRow.jmpInd : OpcodeRow.Statement .jmpInd := OpcodeRow.every _
theorem OpcodeRow.adcAbs : OpcodeRow.Statement .adcAbs := OpcodeRow.every _
theorem OpcodeRow.rorAbs : OpcodeRow.Statement .rorAbs := OpcodeRow.every _
theorem OpcodeRow.bvs : OpcodeRow.Statement .bvs := OpcodeRow.every _
theorem OpcodeRow.adcIndY : OpcodeRow.Statement .adcIndY := OpcodeRow.every _
theorem OpcodeRow.adcZpX : OpcodeRow.Statement .adcZpX := OpcodeRow.every _
theorem OpcodeRow.rorZpX : OpcodeRow.Statement .rorZpX := OpcodeRow.every _
theorem OpcodeRow.sei : OpcodeRow.Statement .sei := OpcodeRow.every _
theorem OpcodeRow.adcAbsY : OpcodeRow.Statement .adcAbsY := OpcodeRow.every _
theorem OpcodeRow.adcAbsX : OpcodeRow.Statement .adcAbsX := OpcodeRow.every _
theorem OpcodeRow.rorAbsX : OpcodeRow.Statement .rorAbsX := OpcodeRow.every _
theorem OpcodeRow.staXInd : OpcodeRow.Statement .staXInd := OpcodeRow.every _
theorem OpcodeRow.styZp : OpcodeRow.Statement .styZp := OpcodeRow.every _
theorem OpcodeRow.staZp : OpcodeRow.Statement .staZp := OpcodeRow.every _
theorem OpcodeRow.stxZp : OpcodeRow.Statement .stxZp := OpcodeRow.every _
theorem OpcodeRow.dey : OpcodeRow.Statement .dey := OpcodeRow.every _
theorem OpcodeRow.txa : OpcodeRow.Statement .txa := OpcodeRow.every _
theorem OpcodeRow.styAbs : OpcodeRow.Statement .styAbs := OpcodeRow.every _
theorem OpcodeRow.staAbs : OpcodeRow.Statement .staAbs := OpcodeRow.every _
theorem OpcodeRow.stxAbs : OpcodeRow.Statement .stxAbs := OpcodeRow.every _
theorem OpcodeRow.bcc : OpcodeRow.Statement .bcc := OpcodeRow.every _
theorem OpcodeRow.staIndY : OpcodeRow.Statement .staIndY := OpcodeRow.every _
theorem OpcodeRow.styZpX : OpcodeRow.Statement .styZpX := OpcodeRow.every _
theorem OpcodeRow.staZpX : OpcodeRow.Statement .staZpX := OpcodeRow.every _
theorem OpcodeRow.stxZpY : OpcodeRow.Statement .stxZpY := OpcodeRow.every _
theorem OpcodeRow.tya : OpcodeRow.Statement .tya := OpcodeRow.every _
theorem OpcodeRow.staAbsY : OpcodeRow.Statement .staAbsY := OpcodeRow.every _
theorem OpcodeRow.txs : OpcodeRow.Statement .txs := OpcodeRow.every _
theorem OpcodeRow.staAbsX : OpcodeRow.Statement .staAbsX := OpcodeRow.every _
theorem OpcodeRow.ldyImm : OpcodeRow.Statement .ldyImm := OpcodeRow.every _
theorem OpcodeRow.ldaXInd : OpcodeRow.Statement .ldaXInd := OpcodeRow.every _
theorem OpcodeRow.ldxImm : OpcodeRow.Statement .ldxImm := OpcodeRow.every _
theorem OpcodeRow.ldyZp : OpcodeRow.Statement .ldyZp := OpcodeRow.every _
theorem OpcodeRow.ldaZp : OpcodeRow.Statement .ldaZp := OpcodeRow.every _
theorem OpcodeRow.ldxZp : OpcodeRow.Statement .ldxZp := OpcodeRow.every _
theorem OpcodeRow.tay : OpcodeRow.Statement .tay := OpcodeRow.every _
theorem OpcodeRow.ldaImm : OpcodeRow.Statement .ldaImm := OpcodeRow.every _
theorem OpcodeRow.tax : OpcodeRow.Statement .tax := OpcodeRow.every _
theorem OpcodeRow.ldyAbs : OpcodeRow.Statement .ldyAbs := OpcodeRow.every _
theorem OpcodeRow.ldaAbs : OpcodeRow.Statement .ldaAbs := OpcodeRow.every _
theorem OpcodeRow.ldxAbs : OpcodeRow.Statement .ldxAbs := OpcodeRow.every _
theorem OpcodeRow.bcs : OpcodeRow.Statement .bcs := OpcodeRow.every _
theorem OpcodeRow.ldaIndY : OpcodeRow.Statement .ldaIndY := OpcodeRow.every _
theorem OpcodeRow.ldyZpX : OpcodeRow.Statement .ldyZpX := OpcodeRow.every _
theorem OpcodeRow.ldaZpX : OpcodeRow.Statement .ldaZpX := OpcodeRow.every _
theorem OpcodeRow.ldxZpY : OpcodeRow.Statement .ldxZpY := OpcodeRow.every _
theorem OpcodeRow.clv : OpcodeRow.Statement .clv := OpcodeRow.every _
theorem OpcodeRow.ldaAbsY : OpcodeRow.Statement .ldaAbsY := OpcodeRow.every _
theorem OpcodeRow.tsx : OpcodeRow.Statement .tsx := OpcodeRow.every _
theorem OpcodeRow.ldyAbsX : OpcodeRow.Statement .ldyAbsX := OpcodeRow.every _
theorem OpcodeRow.ldaAbsX : OpcodeRow.Statement .ldaAbsX := OpcodeRow.every _
theorem OpcodeRow.ldxAbsY : OpcodeRow.Statement .ldxAbsY := OpcodeRow.every _
theorem OpcodeRow.cpyImm : OpcodeRow.Statement .cpyImm := OpcodeRow.every _
theorem OpcodeRow.cmpXInd : OpcodeRow.Statement .cmpXInd := OpcodeRow.every _
theorem OpcodeRow.cpyZp : OpcodeRow.Statement .cpyZp := OpcodeRow.every _
theorem OpcodeRow.cmpZp : OpcodeRow.Statement .cmpZp := OpcodeRow.every _
theorem OpcodeRow.decZp : OpcodeRow.Statement .decZp := OpcodeRow.every _
theorem OpcodeRow.iny : OpcodeRow.Statement .iny := OpcodeRow.every _
theorem OpcodeRow.cmpImm : OpcodeRow.Statement .cmpImm := OpcodeRow.every _
theorem OpcodeRow.dex : OpcodeRow.Statement .dex := OpcodeRow.every _
theorem OpcodeRow.cpyAbs : OpcodeRow.Statement .cpyAbs := OpcodeRow.every _
theorem OpcodeRow.cmpAbs : OpcodeRow.Statement .cmpAbs := OpcodeRow.every _
theorem OpcodeRow.decAbs : OpcodeRow.Statement .decAbs := OpcodeRow.every _
theorem OpcodeRow.bne : OpcodeRow.Statement .bne := OpcodeRow.every _
theorem OpcodeRow.cmpIndY : OpcodeRow.Statement .cmpIndY := OpcodeRow.every _
theorem OpcodeRow.cmpZpX : OpcodeRow.Statement .cmpZpX := OpcodeRow.every _
theorem OpcodeRow.decZpX : OpcodeRow.Statement .decZpX := OpcodeRow.every _
theorem OpcodeRow.cld : OpcodeRow.Statement .cld := OpcodeRow.every _
theorem OpcodeRow.cmpAbsY : OpcodeRow.Statement .cmpAbsY := OpcodeRow.every _
theorem OpcodeRow.cmpAbsX : OpcodeRow.Statement .cmpAbsX := OpcodeRow.every _
theorem OpcodeRow.decAbsX : OpcodeRow.Statement .decAbsX := OpcodeRow.every _
theorem OpcodeRow.cpxImm : OpcodeRow.Statement .cpxImm := OpcodeRow.every _
theorem OpcodeRow.sbcXInd : OpcodeRow.Statement .sbcXInd := OpcodeRow.every _
theorem OpcodeRow.cpxZp : OpcodeRow.Statement .cpxZp := OpcodeRow.every _
theorem OpcodeRow.sbcZp : OpcodeRow.Statement .sbcZp := OpcodeRow.every _
theorem OpcodeRow.incZp : OpcodeRow.Statement .incZp := OpcodeRow.every _
theorem OpcodeRow.inx : OpcodeRow.Statement .inx := OpcodeRow.every _
theorem OpcodeRow.sbcImm : OpcodeRow.Statement .sbcImm := OpcodeRow.every _
theorem OpcodeRow.nop : OpcodeRow.Statement .nop := OpcodeRow.every _
theorem OpcodeRow.cpxAbs : OpcodeRow.Statement .cpxAbs := OpcodeRow.every _
theorem OpcodeRow.sbcAbs : OpcodeRow.Statement .sbcAbs := OpcodeRow.every _
theorem OpcodeRow.incAbs : OpcodeRow.Statement .incAbs := OpcodeRow.every _
theorem OpcodeRow.beq : OpcodeRow.Statement .beq := OpcodeRow.every _
theorem OpcodeRow.sbcIndY : OpcodeRow.Statement .sbcIndY := OpcodeRow.every _
theorem OpcodeRow.sbcZpX : OpcodeRow.Statement .sbcZpX := OpcodeRow.every _
theorem OpcodeRow.incZpX : OpcodeRow.Statement .incZpX := OpcodeRow.every _
theorem OpcodeRow.sed : OpcodeRow.Statement .sed := OpcodeRow.every _
theorem OpcodeRow.sbcAbsY : OpcodeRow.Statement .sbcAbsY := OpcodeRow.every _
theorem OpcodeRow.sbcAbsX : OpcodeRow.Statement .sbcAbsX := OpcodeRow.every _
theorem OpcodeRow.incAbsX : OpcodeRow.Statement .incAbsX := OpcodeRow.every _
theorem OpcodeRow.unknown (b : Byte) : OpcodeRow.Statement (.unknown b) := OpcodeRow.every _

end Sys2Proof.Laws
end

