-- ==== Sys2Proof/Laws/Step.lean ====
section
/-! SUPPORT. What one step does, by the host's next event and the phase. -/

namespace Sys2Proof.Machine

theorem posExhausted_unbounded (s : State) : posExhausted Config.offsetBits s = false := rfl

theorem step_noEvent {s : State} (h : s.input = []) : step s = .next (holdState s) := by
  simp [step, stepWith, h]

theorem step_byte_idle {s : State} {b : Byte} {rest : List Event} (hi : s.input = .byte b :: rest)
    (hc : s.control = .idle) : step s = exec (decode b) (s.fetched rest) := by
  simp [step, stepWith, hi, hc, posExhausted_unbounded]

theorem step_byte_acc {s : State} {b : Byte} {rest : List Event} {cur : Record} {need : Nat}
    (hi : s.input = .byte b :: rest) (hc : s.control = .acc cur need) :
    step s = .next (appendOperand cur need b (s.fetched rest)) := by
  simp [step, stepWith, hi, hc, posExhausted_unbounded]

theorem step_end {s : State} {rest : List Event} (h : s.input = .endInput :: rest) :
    step s = .next (endEvent (s.fetched rest)) := by
  simp [step, stepWith, h]

theorem step_reset {s : State} {rest : List Event} (h : s.input = .reset :: rest) :
    step s = .next (resetEvent (s.fetched rest)) := by
  simp [step, stepWith, h]

/-- Byte `k` of a table word: its bits `8k+7` to `8k`, with every bit from `nbits` on 0. -/
theorem tableWordBytes_getElem? {k : Nat} (h : k < 3) (nbits w : Nat) :
    (tableWordBytes nbits w)[k]? = some (wordByte (w % 2 ^ nbits) k) := by
  rw [tableWordBytes, List.getElem?_map, List.getElem?_range (by omega)]; rfl

end Sys2Proof.Machine
end

