-- ==== Sys2Proof/Laws/Ports.lean ====
section
/-! SUPPORT. The events of one clock edge, input by input, and what an edge with one event or none does. -/

namespace Sys2Proof.Machine

/-- `rst` discards the other inputs (60_exceptions.md R305 (1)). -/
theorem Edge.events_rst {e : Edge} (h : e.rst = true) : e.events = [.reset] := by simp [Edge.events, h]

theorem Edge.events_byte {e : Edge} (h : e.rst = false) (hv : e.inValid = true) (he : e.inEnd = false) :
    e.events = [.byte e.inByte] := by simp [Edge.events, h, hv, he]

theorem Edge.events_end {e : Edge} (h : e.rst = false) (hv : e.inValid = false) (he : e.inEnd = true) :
    e.events = [.endInput] := by simp [Edge.events, h, hv, he]

theorem Edge.events_none {e : Edge} (h : e.rst = false) (hv : e.inValid = false) (he : e.inEnd = false) :
    e.events = [] := by simp [Edge.events, h, hv, he]

/-- A byte with the end of input comes first (60_exceptions.md R305 (2)). -/
theorem Edge.events_both {e : Edge} (h : e.rst = false) (hv : e.inValid = true) (he : e.inEnd = true) :
    e.events = [.byte e.inByte, .endInput] := by simp [Edge.events, h, hv, he]

/-- An edge that is not a byte with the end of input is one step, with that step's outputs. -/
theorem clockEdge_one {e : Edge} {s t : State} (h : e.events.length ≠ 2) (ht : step { s with input := e.events } = .next t) :
    clockEdge e s = .next ({ t with input := s.input }, t.ports) := by
  simp [clockEdge, ht, h]

end Sys2Proof.Machine
end

