-- ==== Sys2Proof/Laws/Render.lean ====
section
/-! SUPPORT. What the parts of the text line can be: how long they are, and the defaults of the parameters. -/

namespace Sys2Proof.Machine

/-- `digits` answers as many digits as it is asked for. -/
@[simp] theorem digits_length (base d v : Nat) : (digits base d v).length = d := by
  induction d generalizing v with
  | zero => rfl
  | succ d ih => simp [digits, ih]

/-- `hex2` is 2 digits (47_render.md R261). -/
@[simp] theorem hex2_length (b : Byte) : (hex2 b).length = 2 := digits_length _ _ _

/-- `hex4` is 4 digits (47_render.md R261). -/
@[simp] theorem hex4_length (w : Word) : (hex4 w).length = 4 := digits_length _ _ _

/-- `bin8` is 8 digits (47_render.md R262). -/
@[simp] theorem bin8_length (b : Byte) : (bin8 b).length = 8 := digits_length _ _ _

@[simp] theorem spaces_length (n : Nat) : (spaces n).length = n := List.length_replicate

/-- A padded text is as long as the columns it is padded to, or as the text itself where that is longer (47_render.md R264). -/
theorem padRight_length (t : Text) (n : Nat) : (padRight t n).length = max t.length n := by
  simp only [padRight, List.length_append, spaces_length]; omega

@[simp] theorem defaultParams_offsetText (v : Nat) : defaultParams.offsetText v = hexOffset v := rfl

@[simp] theorem defaultParams_unknownSeparator : defaultParams.unknownSeparator = [] := rfl

@[simp] theorem defaultParams_impliedTrailingSpace : defaultParams.impliedTrailingSpace = true := rfl

/-- Below 0x10000 the offset has 4 digits, whatever the parameters (47_render.md R251). -/
theorem offsetField_low (p : RenderParams) {v : Nat} (h : v < 0x10000) : offsetField p v = digits 16 4 v := if_pos h

/-- From 0x10000 on the offset is the parameter's text (00_scope.md R5). -/
theorem offsetField_high (p : RenderParams) {v : Nat} (h : 0x10000 ≤ v) : offsetField p v = p.offsetText v :=
  if_neg (Nat.not_lt.2 h)

/-- With the default of IMPLIED_TRAILING_SPACE every record has one space before its operand text (47_render.md R265). -/
theorem separator_default (r : Record) : separator defaultParams r = spaces 1 := by
  simp [separator]

/-- A satisfied record is shown with its operand (47_render.md R263). -/
theorem operandText_some {r : Record} {o : Operand} (p : RenderParams) (h : r.operand = some o) :
    operandText p r = o.text p := by
  simp [operandText, h]

/-- A record with no operand value is shown with the marker (47_render.md R263). -/
theorem operandText_none {r : Record} (p : RenderParams) (h : r.operand = none) : operandText p r = p.missingMarker := by
  simp [operandText, h]

end Sys2Proof.Machine
end

