-- ==== Sys2Proof/Tests/Slice0.lean ====
section
/-! SUPPORT. The tests of the model's own work, and one witness for the hypotheses of each statement. Expected values
come from the tables and vectors of the spec, cited at each test. -/

namespace Sys2Proof.Tests

open Sys2Proof Sys2Proof.Machine

-- Small states.

/-- `IDLE` at position `pos`, after the records `out`, with the host's next events `input`. -/
def idleAt (pos : Nat) (out : List Record) (input : List Event) : State :=
  { control := .idle, pos := pos, out := out, bus := none, result := none, input := input }

/-- `ACC` at position `pos` with the record `cur`, which needs `need` more bytes. -/
def accAt (pos : Nat) (cur : Record) (need : Nat) (input : List Event) : State :=
  { control := .acc cur need, pos := pos, out := [], bus := none, result := none, input := input }

/-- The record of `EA` at offset 0. -/
def nopRecord : Record := { offset := 0, operation := .NOP, addressMode := .Implied, rawBytes := [0xEA] }

/-- `LDA Immediate` at offset 0 with the bytes `bs`. -/
def ldaRecord (bs : List Byte) : Record := { offset := 0, operation := .LDA, addressMode := .Immediate, rawBytes := bs }

/-- `JMP Absolute` at offset 0 with the bytes `bs`. -/
def jmpRecord (bs : List Byte) : Record := { offset := 0, operation := .JMP, addressMode := .Absolute, rawBytes := bs }

/-- `JSR Absolute` at offset 0 with the bytes `bs`. -/
def jsrRecord (bs : List Byte) : Record := { offset := 0, operation := .JSR, addressMode := .Absolute, rawBytes := bs }

/-- What a state shows in the trace tables of 95_test_vectors.md L2.2: phase, pos, need, the bytes of cur, the record emitted. -/
def row (s : State) : Phase × Nat × Option Nat × Option (List Byte) × Option Record :=
  (s.phase, s.pos, s.need, s.cur.map Record.rawBytes, s.bus)

/-- That row of the state that a step answers. -/
def rowOf : Host.Outcome State Fault Refusal → Option (Phase × Nat × Option Nat × Option (List Byte) × Option Record)
  | .next t => some (row t)
  | .fault _ => none
  | .refused _ => none

/-- The result that a step returns. -/
def resultOf : Host.Outcome State Fault Refusal → Option (List Record)
  | .next t => t.result
  | .fault _ => none
  | .refused _ => none

-- Well-formedness.

/-- `unknown` is well formed with an undefined byte value only (30_encoding.md R64): `EA` is NOP, `00` is BRK. -/
theorem test_wellFormed_refuses_defined_bytes :
    (Instr.unknown 0xEA).wellFormed = false ∧ (Instr.unknown 0x00).wellFormed = false ∧
    (Instr.unknown 0xFF).wellFormed = true ∧ (Instr.unknown 0x02).wellFormed = true := by decide

-- Decoding.

/-- LDA, LDX, LDY (30_encoding.md R63, the table by mnemonic). -/
theorem test_decode_loads :
    ([
      0xAD, 0xBD, 0xB9, 0xA9, 0xA1, 0xB1, 0xA5, 0xB5, 0xAE, 0xBE, 0xA2, 0xA6, 0xB6, 0xAC, 0xBC, 0xA0, 0xA4, 0xB4] : List Byte).map decode = [
      .ldaAbs, .ldaAbsX, .ldaAbsY, .ldaImm, .ldaXInd, .ldaIndY, .ldaZp, .ldaZpX, .ldxAbs, .ldxAbsY, .ldxImm, .ldxZp,
      .ldxZpY, .ldyAbs, .ldyAbsX, .ldyImm, .ldyZp, .ldyZpX] := by decide

/-- STA, STX, STY, TAX, TAY, TSX, TXA, TXS, TYA (30_encoding.md R63, the table by mnemonic). -/
theorem test_decode_stores_and_transfers :
    ([
      0x8D, 0x9D, 0x99, 0x81, 0x91, 0x85, 0x95, 0x8E, 0x86, 0x96, 0x8C, 0x84, 0x94, 0xAA, 0xA8, 0xBA, 0x8A, 0x9A, 0x98] : List Byte).map decode = [
      .staAbs, .staAbsX, .staAbsY, .staXInd, .staIndY, .staZp, .staZpX, .stxAbs, .stxZp, .stxZpY, .styAbs, .styZp,
      .styZpX, .tax, .tay, .tsx, .txa, .txs, .tya] := by decide

/-- ADC, SBC (30_encoding.md R63, the table by mnemonic). -/
theorem test_decode_add_and_subtract :
    ([
      0x6D, 0x7D, 0x79, 0x69, 0x61, 0x71, 0x65, 0x75, 0xED, 0xFD, 0xF9, 0xE9, 0xE1, 0xF1, 0xE5, 0xF5] : List Byte).map decode = [
      .adcAbs, .adcAbsX, .adcAbsY, .adcImm, .adcXInd, .adcIndY, .adcZp, .adcZpX, .sbcAbs, .sbcAbsX, .sbcAbsY, .sbcImm,
      .sbcXInd, .sbcIndY, .sbcZp, .sbcZpX] := by decide

/-- AND, EOR, ORA (30_encoding.md R63, the table by mnemonic). -/
theorem test_decode_logic :
    ([
      0x2D, 0x3D, 0x39, 0x29, 0x21, 0x31, 0x25, 0x35, 0x4D, 0x5D, 0x59, 0x49, 0x41, 0x51, 0x45, 0x55, 0x0D, 0x1D,
      0x19, 0x09, 0x01, 0x11, 0x05, 0x15] : List Byte).map decode = [
      .andAbs, .andAbsX, .andAbsY, .andImm, .andXInd, .andIndY, .andZp, .andZpX, .eorAbs, .eorAbsX, .eorAbsY, .eorImm,
      .eorXInd, .eorIndY, .eorZp, .eorZpX, .oraAbs, .oraAbsX, .oraAbsY, .oraImm, .oraXInd, .oraIndY, .oraZp, .oraZpX] := by decide

/-- CMP, CPX, CPY, BIT (30_encoding.md R63, the table by mnemonic). -/
theorem test_decode_compare_and_bit :
    ([
      0xCD, 0xDD, 0xD9, 0xC9, 0xC1, 0xD1, 0xC5, 0xD5, 0xEC, 0xE0, 0xE4, 0xCC, 0xC0, 0xC4, 0x2C, 0x24] : List Byte).map decode = [
      .cmpAbs, .cmpAbsX, .cmpAbsY, .cmpImm, .cmpXInd, .cmpIndY, .cmpZp, .cmpZpX, .cpxAbs, .cpxImm, .cpxZp, .cpyAbs,
      .cpyImm, .cpyZp, .bitAbs, .bitZp] := by decide

/-- INC, DEC, INX, INY, DEX, DEY (30_encoding.md R63, the table by mnemonic). -/
theorem test_decode_increment_and_decrement :
    ([
      0xEE, 0xFE, 0xE6, 0xF6, 0xCE, 0xDE, 0xC6, 0xD6, 0xE8, 0xC8, 0xCA, 0x88] : List Byte).map decode = [
      .incAbs, .incAbsX, .incZp, .incZpX, .decAbs, .decAbsX, .decZp, .decZpX, .inx, .iny, .dex, .dey] := by decide

/-- ASL, LSR (30_encoding.md R63, the table by mnemonic). -/
theorem test_decode_shifts :
    ([
      0x0A, 0x0E, 0x1E, 0x06, 0x16, 0x4A, 0x4E, 0x5E, 0x46, 0x56] : List Byte).map decode = [
      .aslA, .aslAbs, .aslAbsX, .aslZp, .aslZpX, .lsrA, .lsrAbs, .lsrAbsX, .lsrZp, .lsrZpX] := by decide

/-- ROL, ROR (30_encoding.md R63, the table by mnemonic). -/
theorem test_decode_rotates :
    ([
      0x2A, 0x2E, 0x3E, 0x26, 0x36, 0x6A, 0x6E, 0x7E, 0x66, 0x76] : List Byte).map decode = [
      .rolA, .rolAbs, .rolAbsX, .rolZp, .rolZpX, .rorA, .rorAbs, .rorAbsX, .rorZp, .rorZpX] := by decide

/-- BCC, BCS, BEQ, BMI, BNE, BPL, BVC, BVS, JMP, JSR, RTS, RTI, BRK (30_encoding.md R63, the table by mnemonic). -/
theorem test_decode_control_flow :
    ([
      0x90, 0xB0, 0xF0, 0x30, 0xD0, 0x10, 0x50, 0x70, 0x4C, 0x6C, 0x20, 0x60, 0x40, 0x00] : List Byte).map decode = [
      .bcc, .bcs, .beq, .bmi, .bne, .bpl, .bvc, .bvs, .jmpAbs, .jmpInd, .jsrAbs, .rts, .rti, .brk] := by decide

/-- PHA, PHP, PLA, PLP, CLC, CLD, CLI, CLV, SEC, SED, SEI, NOP (30_encoding.md R63, the table by mnemonic). -/
theorem test_decode_stack_flag_and_nop :
    ([
      0x48, 0x08, 0x68, 0x28, 0x18, 0xD8, 0x58, 0xB8, 0x38, 0xF8, 0x78, 0xEA] : List Byte).map decode = [
      .pha, .php, .pla, .plp, .clc, .cld, .cli, .clv, .sec, .sed, .sei, .nop] := by decide

/-- The undefined values decode to `unknown` (30_encoding.md R64). -/
theorem test_decode_undefined :
    undefinedOpcodes.map decode = undefinedOpcodes.map .unknown := rfl

/-- One word of each family written out bit by bit (30_encoding.md R63): AD, 6A, 6C, 08 and the undefined 89. -/
theorem test_decode_bit_by_bit :
    decode 0b10101101 = .ldaAbs ∧ decode 0b01101010 = .rorA ∧ decode 0b01101100 = .jmpInd ∧
    decode 0b00001000 = .php ∧ decode 0b10001001 = .unknown 0x89 := by decide

/-- 151 opcodes are defined, 105 values are not, and the names number 56 and `Unknown`, the modes 13 and `Unknown`
(00_scope.md R5, R9, 30_encoding.md R63, R64). -/
theorem test_opcode_counts :
    (opcodeMap.flatten.filterMap id).length = Config.nOpcodesDefined ∧ undefinedOpcodes.length = 105 ∧
    operationTable.length = Config.nMnemonics + 1 ∧ modeTable.length = Config.nModes + 1 := ⟨rfl, rfl, rfl, rfl⟩

/-- The first byte is the low byte of a table word; the bits above `nbits` are operand bytes of zero. -/
theorem test_decodeTableWord :
    decodeTableWord 8 0x20 = some .jsrAbs ∧ decodeTableWord 24 0xBA2820 = some .jsrAbs ∧
    decodeTableWord 8 0xFF = some (.unknown 0xFF) ∧ tableWordBytes 24 0xBA2820 = [0x20, 0x28, 0xBA] ∧
    tableWordBytes 8 0x20 = [0x20, 0, 0] := by decide

/-- The first step after reset runs the instruction placed, with its operand bytes still to come. -/
theorem test_withFetchWord :
    rowOf (step (State.reset.withFetchWord 24 0xBA2820)) = some (.ACC, 1, some 2, some [0x20], none) ∧
    (State.reset.withFetchWord 24 0xBA2820).input = [.byte 0x20, .byte 0x28, .byte 0xBA] ∧
    (State.reset.withFetchWord 8 0xEA).input = [.byte 0xEA] := ⟨rfl, rfl, rfl⟩

-- Single steps, from the trace tables of 95_test_vectors.md L2.2.

/-- T1, rows 1 and 2: `E8` is emitted on its opcode byte; `End` returns it. -/
theorem test_T1_implied :
    rowOf (step (idleAt 0 [] [.byte 0xE8])) =
      some (.IDLE, 1, none, none, some { offset := 0, operation := .INX, addressMode := .Implied, rawBytes := [0xE8] }) ∧
    rowOf (step (idleAt 1 [nopRecord] [.endInput])) = some (.IDLE, 0, none, none, none) ∧
    resultOf (step (idleAt 1 [nopRecord] [.endInput])) = some [nopRecord] := ⟨rfl, rfl, rfl⟩

/-- T3, rows 1 to 3: `4C` waits for two bytes, `00` leaves one, `80` completes the record. -/
theorem test_T3_absolute :
    rowOf (step (idleAt 0 [] [.byte 0x4C])) = some (.ACC, 1, some 2, some [0x4C], none) ∧
    rowOf (step (accAt 1 (jmpRecord [0x4C]) 2 [.byte 0x00])) =
      some (.ACC, 2, some 1, some [0x4C, 0x00], none) ∧
    rowOf (step (accAt 2 (jmpRecord [0x4C, 0x00]) 1
      [.byte 0x80])) =
      some (.IDLE, 3, none, none,
        some (jmpRecord [0x4C, 0x00, 0x80])) := ⟨rfl, rfl, rfl⟩

/-- T4, row 2, and T5, row 2: an operand byte that is an opcode, or an undefined value, is not looked up. -/
theorem test_T4_T5_operands_are_not_decoded :
    rowOf (step (accAt 1 { offset := 0, operation := .LDA, addressMode := .Absolute, rawBytes := [0xAD] } 2 [.byte 0x4C])) =
      some (.ACC, 2, some 1, some [0xAD, 0x4C], none) ∧
    rowOf (step (accAt 1 (ldaRecord [0xA9]) 1
      [.byte 0xFF])) =
      some (.IDLE, 2, none, none,
        some (ldaRecord [0xA9, 0xFF])) := ⟨rfl, rfl⟩

/-- T6, row 2: an undefined byte in `IDLE` is a record of its own, at its own offset. -/
theorem test_T6_undefined :
    rowOf (step (idleAt 1 [] [.byte 0x03])) =
      some (.IDLE, 2, none, none,
        some { offset := 1, operation := .Unknown, addressMode := .Unknown, rawBytes := [0x03] }) := rfl

/-- T7, row 2: `End` in `ACC` emits the truncated record and returns it. -/
theorem test_T7_truncation :
    rowOf (step (accAt 1 (jsrRecord [0x20]) 2 [.endInput])) =
      some (.IDLE, 0, none, none, some (jsrRecord [0x20])) ∧
    resultOf (step (accAt 1 (jsrRecord [0x20]) 2 [.endInput])) = some [jsrRecord [0x20]] := ⟨rfl, rfl⟩

/-- T10, row 3: a second `End` returns the empty sequence, which is a result. -/
theorem test_T10_second_end : resultOf (step (idleAt 0 [] [.endInput])) = some [] := rfl

/-- T11, row 2, and T12, row 3: `Reset` emits nothing and returns nothing; `cur` and `out` are gone. -/
theorem test_T11_T12_reset :
    rowOf (step (accAt 1 (ldaRecord [0xA9]) 1 [.reset])) =
      some (.IDLE, 0, none, none, none) ∧
    step (idleAt 2 [nopRecord] [.reset, .byte 0xC8]) = .next (idleAt 0 [] [.byte 0xC8]) := ⟨rfl, rfl⟩

/-- With no event the state is held, and the outputs of the step before are gone (60_exceptions.md R312, 40_parser.md R113). -/
theorem test_no_event :
    step { idleAt 1 [nopRecord] [] with bus := some nopRecord } = .next (idleAt 1 [nopRecord] []) := rfl

/-- With 4 offset bits a byte at position 15 is refused, at 14 it is not, and `End` at 15 is not (60_exceptions.md R306). -/
theorem test_finite_offset :
    stepWith (some 4) (idleAt 15 [] [.byte 0xEA]) = .refused .offsetExhausted ∧
    rowOf (stepWith (some 4) (idleAt 14 [] [.byte 0xA9])) = some (.ACC, 15, some 1, some [0xA9], none) ∧
    resultOf (stepWith (some 4) (idleAt 15 [] [.endInput])) = some [] := ⟨rfl, rfl, rfl⟩

/-- `rst` wins over a byte on the same edge; a byte with the end of input is processed first (60_exceptions.md R305). -/
theorem test_edge_priority :
    Edge.events { rst := true, inValid := true, inByte := 0xEA, inEnd := true } = [.reset] ∧
    Edge.events { rst := false, inValid := true, inByte := 0xEA, inEnd := true } = [.byte 0xEA, .endInput] ∧
    Edge.events { rst := false, inValid := false, inByte := 0xEA, inEnd := false } = [] := by decide

/-- Two edges, `A9` and then `FF` with `in_end`: the second puts out the record of both bytes, with `done` (40_parser.md R113;
codes LDA 29, Immediate 4 of 30_encoding.md R69). -/
theorem test_clock_edges :
    clockEdges [{ rst := false, inValid := true, inByte := 0xA9, inEnd := false },
        { rst := false, inValid := true, inByte := 0xFF, inEnd := true }] State.reset =
      .next ({ State.reset with result := some [ldaRecord [0xA9, 0xFF]] },
        [{ recValid := false, bus := none, done := false },
         { recValid := true, done := true, bus := some {
             wires := { offset := 0, op := 29, mode := 4, cnt := 2, b0 := some 0xA9, b1 := some 0xFF, b2 := none }
             recSat := true } }]) := rfl

/-- The codes of 30_encoding.md R69: LDA 29, Unknown 56, Immediate 4, Unknown 13; 57 and 14 name nothing. -/
theorem test_codes :
    operationCode .LDA = 29 ∧ operationCode .Unknown = 56 ∧ modeCode .Immediate = 4 ∧ modeCode .Unknown = 13 ∧
    operationOfCode 57 = none ∧ modeOfCode 14 = none := by decide

-- Operands and text.

/-- 95_test_vectors.md L2.5, the targets at the ends of the range and across the wrap. -/
theorem test_branch_targets :
    branchTarget 0x0 0xFF = 0x0001 ∧ branchTarget 0x0 0x80 = 0xFF82 ∧ branchTarget 0x0 0x7F = 0x0081 ∧
    branchTarget 0xFE 0x7F = 0x017F ∧ branchTarget 0xFFFE 0x00 = 0x0000 ∧ branchTarget 0xFFFF 0x80 = 0xFF81 ∧
    branchTarget 0x10000 0x00 = 0x0002 ∧ branchTarget 0x1FFFE 0xFF = 0xFFFF := by decide

/-- The adder form agrees on the same rows (41_addressing_modes.md R134). -/
theorem test_branch_adder :
    branchAdder 0x0 0x80 = 0xFF82 ∧ branchAdder 0xFFFF 0x80 = 0xFF81 ∧ branchAdder 0x12345 0x80 = 0x22C7 := by decide

/-- 95_test_vectors.md L2.4, one operand text of each mode with two-byte records. -/
theorem test_text_of_two_byte_modes :
    listing [0x29, 0x0F] = ["0000   29 0F         AND #$0F".toList] ∧
    listing [0xA5, 0x0A] = ["0000   A5 0A         LDA $0A".toList] ∧
    listing [0x15, 0xFF] = ["0000   15 FF         ORA $FF,X".toList] ∧
    listing [0xB6, 0x01] = ["0000   B6 01         LDX $01,Y".toList] ∧
    listing [0x01, 0x00] = ["0000   01 00         ORA ($00,X)".toList] ∧
    listing [0xD1, 0xFE] = ["0000   D1 FE         CMP ($FE),Y".toList] ∧
    listing [0xB0, 0x00] = ["0000   B0 00         BCS $0002".toList] := by decide +kernel

/-- 95_test_vectors.md L2.4, the other modes. -/
theorem test_text_of_the_other_modes :
    listing [0x18] = ["0000   18            CLC ".toList] ∧
    listing [0x4A] = ["0000   4A            LSR A".toList] ∧
    listing [0x0D, 0x01, 0x00] = ["0000   0D 01 00      ORA $0001".toList] ∧
    listing [0x3D, 0xCD, 0xAB] = ["0000   3D CD AB      AND $ABCD,X".toList] ∧
    listing [0x59, 0x00, 0xC0] = ["0000   59 00 C0      EOR $C000,Y".toList] ∧
    listing [0x6C, 0xFF, 0x02] = ["0000   6C FF 02      JMP ($02FF)".toList] := by decide +kernel

/-- 95_test_vectors.md L2.6: the apostrophe, 7F, 22, 7C, the offsets FFFF and 10000, the missing operand. -/
theorem test_text_corner_cases :
    listing [0x27] = ["0000   27            ??? ;%00100111'''".toList] ∧
    listing [0x7F] = ["0000   7F            ??? ;%01111111".toList] ∧
    listing [0x22] = ["0000   22            ??? ;%00100010'\"'".toList] ∧
    listing [0x7C] = ["0000   7C            ??? ;%01111100'|'".toList] ∧
    line { nopRecord with offset := 0xFFFF } = "FFFF   EA            NOP ".toList ∧
    line { nopRecord with offset := 0x10000 } = "10000   EA            NOP ".toList ∧
    listing [0xA9] = ["0000   A9            LDA *Missing operands*".toList] := by decide +kernel

/-- The parameters U2 to U5 of 93_implementation_defined.md change the places they name and nothing else. -/
theorem test_render_parameters :
    lineWith { defaultParams with impliedTrailingSpace := false } nopRecord = "0000   EA            NOP".toList ∧
    lineWith { defaultParams with missingMarker := "?".toList } (jsrRecord [0x20]) = "0000   20            JSR ?".toList ∧
    lineWith { defaultParams with offsetText := fun _ => "*".toList } { nopRecord with offset := 0xFFFF } =
      "FFFF   EA            NOP ".toList ∧
    lineWith { defaultParams with unknownSeparator := " ".toList }
      { offset := 0, operation := .Unknown, addressMode := .Unknown, rawBytes := [0x27] } =
      "0000   27            ??? ;%00100111 '''".toList := by decide +kernel

-- The hypotheses of the statements, met.

/-- The truncated `JSR` after `20` and after `20 28` meets the invariant: `need` is 2 and 1. -/
theorem accInv (input : List Event) :
    (accAt 1 (jsrRecord [0x20]) 2 input).Inv ∧ (accAt 2 (jsrRecord [0x20, 0x28]) 1 input).Inv := by
  refine ⟨⟨by simp [accAt], trivial, ?_⟩, ⟨by simp [accAt], trivial, ?_⟩⟩ <;>
    exact ⟨by decide, rfl, rfl, rfl, by decide, by decide⟩

/-- `IDLE` after the record of `EA` meets the invariant. -/
theorem idleInv (input : List Event) : (idleAt 1 [nopRecord] input).Inv :=
  ⟨by simp only [idleAt, List.mem_singleton, forall_eq]; decide, ⟨rfl, trivial⟩, rfl⟩

theorem test_hyp_UndefinedBytesAreUnknownAndOneByteLong :
    (0x02 : Byte) ∈ undefinedOpcodes ∧ (0xFF : Byte) ∈ undefinedOpcodes := by
  decide

theorem test_hyp_OpTabIsTotalAndPaired : (opTab 0x00).1 ≠ .Unknown ∧ (opTab 0xFF).1 = .Unknown := by decide

theorem test_hyp_DecodeOfEncodeIsTheInstruction :
    Instr.wellFormed .brk = true ∧ Instr.wellFormed .incAbsX = true ∧ Instr.wellFormed (.unknown 0x02) = true := by decide

theorem test_hyp_StepRunsTheDecodedInstruction :
    (idleAt 0 [] (byteEvents [0x20, 0x28] ++ [.endInput])).control = .idle ∧
    (idleAt 0 [] (byteEvents [0x20, 0x28] ++ [.endInput])).input = byteEvents (0x20 :: [0x28]) ++ [.endInput] ∧
    decodeBytes (0x20 :: [0x28]) = .ok (.jsrAbs, [0x28]) := ⟨rfl, rfl, rfl⟩

theorem test_hyp_FetchWordPlacesTheInstruction :
    decodeTableWord 8 0xEA = some .nop ∧ decodeTableWord 24 0xFFFFA9 = some .ldaImm ∧
    decodeTableWord 24 0xBA2820 = some .jsrAbs ∧ decodeTableWord 0 0 = some .brk := by
  decide

theorem test_hyp_OperandByteIsAppended :
    ((accAt 2 (jsrRecord [0x20, 0x28]) 1 [.byte 0xBA]).control = .acc (jsrRecord [0x20, 0x28]) 1 ∧
      (accAt 2 (jsrRecord [0x20, 0x28]) 1 [.byte 0xBA]).input = .byte 0xBA :: []) ∧
    ((accAt 1 (jsrRecord [0x20]) 2 [.byte 0x28]).control = .acc (jsrRecord [0x20]) 2 ∧
      (accAt 1 (jsrRecord [0x20]) 2 [.byte 0x28]).input = .byte 0x28 :: []) := by decide

theorem test_hyp_EndFlushesTheTruncatedRecord :
    ((accAt 1 (jsrRecord [0x20]) 2 [.endInput]).control = .acc (jsrRecord [0x20]) 2 ∧
      (accAt 1 (jsrRecord [0x20]) 2 [.endInput]).input = .endInput :: [] ∧
      (accAt 1 (jsrRecord [0x20]) 2 [.endInput]).Inv) ∧
    ((accAt 2 (jsrRecord [0x20, 0x28]) 1 [.endInput]).control = .acc (jsrRecord [0x20, 0x28]) 1 ∧
      (accAt 2 (jsrRecord [0x20, 0x28]) 1 [.endInput]).input = .endInput :: [] ∧
      (accAt 2 (jsrRecord [0x20, 0x28]) 1 [.endInput]).Inv) ∧
    ((idleAt 0 [] [.byte 0x20, .byte 0x28, .endInput, .byte 0xEA]).Fresh ∧
      (idleAt 0 [] [.byte 0x20, .byte 0x28, .endInput, .byte 0xEA]).input =
        .byte 0x20 :: .byte 0x28 :: .endInput :: [.byte 0xEA]) :=
  ⟨⟨rfl, rfl, (accInv _).1⟩, ⟨rfl, rfl, (accInv _).2⟩, by decide⟩

theorem test_hyp_EndWithNoRecordInProgress :
    ((idleAt 1 [nopRecord] [.endInput]).control = .idle ∧ (idleAt 1 [nopRecord] [.endInput]).input = .endInput :: []) ∧
    ((idleAt 0 [] [.endInput]).Fresh ∧ (idleAt 0 [] [.endInput]).input = .endInput :: []) ∧
    (accAt 1 (jsrRecord [0x20]) 2 [.endInput, .endInput]).input = .endInput :: .endInput :: [] := by decide

theorem test_hyp_AfterEndTheStateIsTheResetState :
    (idleAt 1 [nopRecord] [.endInput]).input = .endInput :: [] ∧
    (accAt 1 (jsrRecord [0x20]) 2 [.reset]).input = .reset :: [] := by decide

theorem test_hyp_ResetEventGivesTheResetState :
    (accAt 1 (jsrRecord [0x20]) 2 [.reset, .byte 0xEA]).input = .reset :: [.byte 0xEA] := by decide

theorem test_hyp_NoEventHoldsTheState : (accAt 1 (jsrRecord [0x20]) 2 []).input = [] := by decide

/-- One state for each kind of event, each with its next state; it serves the three statements below. -/
theorem stepsOnEachEvent :
    step (idleAt 1 [nopRecord] []) = .next (idleAt 1 [nopRecord] []) ∧
    step (idleAt 0 [] [.byte 0xEA]) = .next { idleAt 1 [nopRecord] [] with bus := some nopRecord } ∧
    step (accAt 2 (jsrRecord [0x20, 0x28]) 1 [.endInput]) =
      .next { idleAt 0 [] [] with bus := some (jsrRecord [0x20, 0x28]), result := some [jsrRecord [0x20, 0x28]] } ∧
    step (idleAt 1 [nopRecord] [.reset]) = .next (idleAt 0 [] []) := ⟨rfl, rfl, rfl, rfl⟩

theorem test_hyp_EmittedRecordsAreNeverChanged :
    (∃ s t, s.input = [] ∧ step s = .next t) ∧ (∃ s t b rest, s.input = .byte b :: rest ∧ step s = .next t) ∧
    (∃ s t rest, s.input = .endInput :: rest ∧ step s = .next t) ∧
    (∃ s t rest, s.input = .reset :: rest ∧ step s = .next t) :=
  ⟨⟨_, _, rfl, stepsOnEachEvent.1⟩, ⟨_, _, _, _, rfl, stepsOnEachEvent.2.1⟩, ⟨_, _, _, rfl, stepsOnEachEvent.2.2.1⟩,
    ⟨_, _, _, rfl, stepsOnEachEvent.2.2.2⟩⟩

theorem test_hyp_PositionCountsBytes :
    (∃ s t, step s = .next t ∧ s.input = []) ∧
    (∃ s t b rest, step s = .next t ∧ s.input = .byte b :: rest ∧ s.control = .idle) ∧
    (∃ s t rest, step s = .next t ∧ s.input = .endInput :: rest) ∧
    (∃ s t rest, step s = .next t ∧ s.input = .reset :: rest) :=
  ⟨⟨_, _, stepsOnEachEvent.1, rfl⟩, ⟨_, _, _, _, stepsOnEachEvent.2.1, rfl, rfl⟩, ⟨_, _, _, stepsOnEachEvent.2.2.1, rfl⟩,
    ⟨_, _, _, stepsOnEachEvent.2.2.2, rfl⟩⟩

/-- `IDLE`, the one hypothesis of every statement about a family of instructions (LoadAndStoreStartTheirRecord to
UnknownEmitsTheByteAsARecord). -/
theorem test_hyp_families : State.reset.control = .idle ∧ (idleAt 1 [nopRecord] []).control = .idle ∧
    (0x02 : Byte) ∈ undefinedOpcodes := by decide

theorem test_hyp_MeaningsAgreeWithTheTable :
    State.reset.control = .idle ∧ (opTab 0xEA).2.len = 1 ∧ (opTab 0xA9).2.len ≠ 1 ∧ (opTab 0x20).2.len ≠ 1 := by decide

theorem test_hyp_OpcodeByteInAccIsAnOperand :
    (accAt 2 (jsrRecord [0x20, 0x28]) 1 []).control = .acc (jsrRecord [0x20, 0x28]) 1 ∧
    (accAt 1 (jsrRecord [0x20]) 2 []).control = .acc (jsrRecord [0x20]) 2 := by decide

theorem test_hyp_InstructionFrame :
    exec .nop (idleAt 0 [] []) = .next { idleAt 1 [nopRecord] [] with bus := some nopRecord } ∧
    exec .plp (accAt 1 (jsrRecord [0x20]) 2 []) = .next (accAt 2 (jsrRecord [0x20, 0x28]) 1 []) ∧
    (accAt 1 (jsrRecord [0x20]) 2 []).control = .acc (jsrRecord [0x20]) 2 :=
  ⟨rfl, rfl, rfl⟩

theorem test_hyp_WholeInstructionEmitsOneRecord :
    (Instr.wellFormed .nop = true ∧ ([] : List Byte).length + 1 = (Instr.mode .nop).len) ∧
    (Instr.wellFormed .ldaImm = true ∧ ([0xBD] : List Byte).length + 1 = (Instr.mode .ldaImm).len) ∧
    (Instr.wellFormed .jsrAbs = true ∧ ([0x28, 0xBA] : List Byte).length + 1 = (Instr.mode .jsrAbs).len) ∧
    (idleAt 0 [] (byteEvents (encodeWith .jsrAbs [0x28, 0xBA]) ++ [.endInput])).control = .idle := by decide

theorem test_hyp_TruncatedInstructionIsFlushedByEnd :
    (Instr.wellFormed .ldaImm = true ∧ ([] : List Byte).length + 1 < (Instr.mode .ldaImm).len) ∧
    (Instr.wellFormed .jsrAbs = true ∧ ([0x28] : List Byte).length + 1 < (Instr.mode .jsrAbs).len) ∧
    (idleAt 0 [] (byteEvents (encodeWith .jsrAbs [0x28]) ++ .endInput :: [])).control = .idle := by decide

theorem test_hyp_RunOfUndefinedBytes :
    (∀ b ∈ ([0x02, 0x03, 0xFF] : List Byte), b ∈ undefinedOpcodes) ∧
    (idleAt 0 [] (byteEvents [0x02, 0x03, 0xFF] ++ [])).control = .idle ∧
    (accAt 1 (jsrRecord [0x20]) 2 [.byte 0xFF]).control = .acc (jsrRecord [0x20]) 2 ∧
    (accAt 1 (jsrRecord [0x20]) 2 [.byte 0xFF]).input = .byte 0xFF :: [] := by decide

theorem test_hyp_EndReturnsDecodeOfTheBytes :
    State.Fresh (idleAt 0 [] (byteEvents [0xEA, 0x20] ++ .endInput :: [.byte 0xEA])) ∧
    (idleAt 0 [] (byteEvents [0xEA, 0x20] ++ .endInput :: [.byte 0xEA])).input =
      byteEvents [0xEA, 0x20] ++ .endInput :: [.byte 0xEA] := by decide

theorem test_hyp_DecodeOffsetsFollowOneAnother :
    (decodeStream [0xEA, 0x20])[0]? = some nopRecord ∧
    (decodeStream [0xEA, 0x20])[0 + 1]? = some { jsrRecord [0x20] with offset := 1 } ∧
    (decodeStream [0xEA, 0x20]).getLast? = some { jsrRecord [0x20] with offset := 1 } := by decide

theorem test_hyp_DecodeLengthsMatchTheMode :
    { jsrRecord [0x20] with offset := 1 } ∈ decodeStream [0xEA, 0x20] ∧
    nopRecord ∈ (decodeStream [0xEA, 0x20]).dropLast := by decide

theorem test_hyp_BusRecordsAreTheResult :
    State.Fresh (idleAt 0 [] (byteEvents [0xEA] ++ .endInput :: [])) ∧ 1 ≤ 1 ∧ 1 ≤ ([0xEA] : List Byte).length := by decide

theorem test_hyp_InvocationsAreIndependent :
    State.Fresh (idleAt 0 [] (byteEvents [0x20] ++ .endInput :: (byteEvents [0xEA] ++ .endInput :: []))) := by decide

theorem test_hyp_ResetDiscardsTheInvocation :
    (accAt 1 (jsrRecord [0x20]) 2 (byteEvents [0x28] ++ .reset :: (byteEvents [0xEA] ++ .endInput :: []))).input =
      byteEvents [0x28] ++ .reset :: (byteEvents [0xEA] ++ .endInput :: []) := by decide

theorem test_hyp_AnchorsAloneDecodeTheSourceExample :
    opTab 0xA9 = (.LDA, .Immediate) ∧ opTab 0xA0 = (.LDY, .Immediate) ∧ opTab 0x20 = (.JSR, .Absolute) := by decide

theorem test_hyp_StepKeepsTheInvariant :
    (∃ s t, State.Inv s ∧ s.control = .idle ∧ step s = .next t) ∧
    (∃ s t, State.Inv s ∧ s.control ≠ .idle ∧ step s = .next t) :=
  ⟨⟨idleAt 1 [nopRecord] [], _, idleInv _, rfl, stepsOnEachEvent.1⟩,
    ⟨accAt 2 (jsrRecord [0x20, 0x28]) 1 [.endInput], _, (accInv _).2, by decide, stepsOnEachEvent.2.2.1⟩⟩

theorem test_hyp_StepKeepsDecodeOfTheConsumedBytes :
    (∃ s t, State.Inv s ∧ s.DecodesItsBytes ∧ step s = .next t ∧ s.input = []) ∧
    (∃ s t b rest, State.Inv s ∧ s.DecodesItsBytes ∧ step s = .next t ∧ s.input = .byte b :: rest) ∧
    (∃ s t rest, State.Inv s ∧ s.DecodesItsBytes ∧ step s = .next t ∧ s.input = .endInput :: rest) ∧
    (∃ s t rest, State.Inv s ∧ s.DecodesItsBytes ∧ step s = .next t ∧ s.input = .reset :: rest) :=
  ⟨⟨_, _, idleInv [], ⟨by decide, by decide⟩, stepsOnEachEvent.1, rfl⟩,
    ⟨idleAt 0 [] [.byte 0xEA], _, _, _, ⟨by simp [idleAt], trivial, rfl⟩, ⟨by decide, by decide⟩, stepsOnEachEvent.2.1, rfl⟩,
    ⟨_, _, _, (accInv [.endInput]).2, ⟨by decide, by decide⟩, stepsOnEachEvent.2.2.1, rfl⟩,
    ⟨_, _, _, idleInv [.reset], ⟨by decide, by decide⟩, stepsOnEachEvent.2.2.2, rfl⟩⟩

theorem test_hyp_ResultRecordsAreWellFormed :
    ∃ s t rs, State.Inv s ∧ step s = .next t ∧ t.result = some rs ∧ rs = [jsrRecord [0x20, 0x28]] :=
  ⟨accAt 2 (jsrRecord [0x20, 0x28]) 1 [.endInput], _, _, (accInv _).2, stepsOnEachEvent.2.2.1, rfl, rfl⟩

theorem test_hyp_AtMostOneRecordPerClockEdge :
    (idleAt 0 [] [.byte 0xEA, .endInput]).input = .byte 0xEA :: .endInput :: [] ∧
    (idleAt 0 [] [.byte 0x20, .endInput]).input = .byte 0x20 :: .endInput :: [] := by decide

theorem test_hyp_PriorityOnOneClockEdge :
    Edge.rst { rst := true, inValid := true, inByte := 0xEA, inEnd := true } = true ∧
    Edge.rst { rst := true, inValid := false, inByte := 0, inEnd := false } = true := by decide

theorem test_hyp_EdgesWithOneEventOrNone :
    (∃ e : Edge, e.rst = false ∧ e.inValid = true ∧ e.inEnd = false) ∧
    (∃ e : Edge, e.rst = false ∧ e.inValid = false ∧ e.inEnd = true) ∧
    (∃ e : Edge, e.rst = false ∧ e.inValid = false ∧ e.inEnd = false) :=
  ⟨⟨{ rst := false, inValid := true, inByte := 0xEA, inEnd := false }, rfl, rfl, rfl⟩,
    ⟨{ rst := false, inValid := false, inByte := 0xEA, inEnd := true }, rfl, rfl, rfl⟩,
    ⟨{ rst := false, inValid := false, inByte := 0xEA, inEnd := false }, rfl, rfl, rfl⟩⟩

theorem test_hyp_EnumerationCodesAreABijection :
    57 ≤ (57 : BitVec 6).toNat ∧ 57 ≤ (63 : BitVec 6).toNat ∧ 14 ≤ (14 : BitVec 4).toNat ∧ 14 ≤ (15 : BitVec 4).toNat := by
  decide

theorem test_hyp_RegistersOnWiresLoseNothing :
    (idleAt 1 [nopRecord] []).Inv ∧ (accAt 1 (jsrRecord [0x20]) 2 []).Inv ∧ (accAt 2 (jsrRecord [0x20, 0x28]) 1 []).Inv :=
  ⟨idleInv _, accInv _⟩

theorem test_hyp_FiniteOffsetRefusesOnlyTheLastPosition :
    ((idleAt 15 [] [.byte 0xEA]).input = .byte 0xEA :: [] ∧ (idleAt 15 [] [.byte 0xEA]).pos = 2 ^ 4 - 1) ∧
    ((idleAt 14 [] [.byte 0xEA]).input = .byte 0xEA :: [] ∧ (idleAt 14 [] [.byte 0xEA]).pos ≠ 2 ^ 4 - 1) := by decide

/-- Each of the four modes meets the hypothesis on the mode. -/
theorem test_hyp_Operand16IsLittleEndian :
    ∀ m ∈ [AddressingMode.Absolute, .AbsoluteX, .AbsoluteY, .Indirect],
      (m = .Absolute ∨ m = .AbsoluteX ∨ m = .AbsoluteY ∨ m = .Indirect) := by decide

theorem test_hyp_SignExtensionRange : (0x7F : Byte).toNat < 128 ∧ 128 ≤ (0x80 : Byte).toNat := by decide

theorem test_hyp_OperandsExistOnlyWhenSatisfied :
    ((jsrRecord [0x20, 0x28, 0xBA]).satisfied = true ∧ (jsrRecord [0x20, 0x28, 0xBA]).len = 3) ∧
    (Record.satisfied (ldaRecord [0xA9, 0xFF]) = true ∧
      2 ≤ Record.len (ldaRecord [0xA9, 0xFF])) ∧
    nopRecord.satisfied = true ∧ (jsrRecord [0x20, 0x28]).satisfied = false ∧ (jsrRecord [0x20]).satisfied = false := by
  decide

theorem test_hyp_OffsetTextIsNeverTruncated :
    0xFFFF < 0x10000 ∧ 0x10000 ≤ 0x10000 ∧ hexOffset 0xFFFF = "FFFF".toList ∧ hexOffset 0x10000 = "10000".toList := by
  decide +kernel

theorem test_hyp_UnknownTextShowsTheByte :
    (32 ≤ (0x22 : Byte).toNat ∧ (0x7C : Byte).toNat ≤ 126) ∧ ¬ (0x7F : Byte).toNat ≤ 126 ∧ ¬ 32 ≤ (0x1F : Byte).toNat := by
  decide

theorem test_hyp_MnemonicStartsInColumn22 :
    (1 ≤ nopRecord.rawBytes.length ∧ nopRecord.rawBytes.length ≤ 3 ∧
      ({ nopRecord with offset := 0xFFFF } : Record).offset < 0x10000) ∧
    (1 ≤ (jsrRecord [0x20, 0x28, 0xBA]).rawBytes.length ∧ (jsrRecord [0x20, 0x28, 0xBA]).rawBytes.length ≤ 3) := by decide

/-- 47_render.md R264: the fields `"EA      "` and `"A9 BD   "`, padded on the right. -/
theorem test_bytes_field :
    padRight (bytesHex nopRecord) 8 = "EA      ".toList ∧
    padRight (bytesHex (ldaRecord [0xA9, 0xBD])) 8 = "A9 BD   ".toList := by decide +kernel

end Sys2Proof.Tests
end

section
/-! PROOFS. Sign extension of a byte (00_scope.md R7): its value on each half of the bytes, and that it is the byte read
as two's complement, from which its range follows. -/

namespace Sys2Proof.Machine

theorem sext8_of_lt {b : Byte} (h : b.toNat < 128) : sext8 b = b.toNat := if_pos h

theorem sext8_of_ge {b : Byte} (h : 128 ≤ b.toNat) : sext8 b = (b.toNat : Int) - 256 := if_neg (Nat.not_lt.mpr h)

/-- The byte "reinterpreted as a signed 8-bit integer" (R7): both sides subtract 2^8 exactly from 2^7 on. -/
theorem sext8_eq_toInt (b : Byte) : sext8 b = b.toInt := by
  rcases Nat.lt_or_ge b.toNat 128 with h | h
  · rw [sext8_of_lt h, BitVec.toInt_eq_toNat_of_lt (by omega)]
  · rw [sext8_of_ge h, BitVec.toInt_eq_toNat_cond, if_neg (by omega)]
    rfl

theorem neg_128_le_sext8 (b : Byte) : -128 ≤ sext8 b := by
  rw [sext8_eq_toInt]
  exact BitVec.le_toInt b

theorem sext8_le_127 (b : Byte) : sext8 b ≤ 127 := by
  rw [sext8_eq_toInt]
  exact Int.le_of_lt_add_one BitVec.toInt_lt

/-- Settles O54: the two halves are the branches of `sext8`, and the range is that of two's complement. -/
theorem signExtensionRange : Obligations.SignExtensionRange := fun b =>
  ⟨sext8_of_lt, sext8_of_ge, neg_128_le_sext8 b, sext8_le_127 b, sext8_eq_toInt b,
    BitVec.toNat_setWidth_of_le (by decide)⟩

end Sys2Proof.Machine
end

section
/-! PROOFS. What a step can do, said once: the four kinds of event and the state each one leaves. -/

namespace Sys2Proof

/-- The table by mnemonic names the byte that the map of 30_encoding.md R63 was read at, defined or not. -/
theorem opcode_decode (b : Byte) : (decode b).opcode = b := by
  revert b
  decide

namespace Machine

/-- In `IDLE` the byte's instruction runs, and in `ACC` neither `step` nor `opcodeEvent` reads the row (40_parser.md R102 to
R104): in either phase a step on a byte is the `Byte` event of the opcode table. -/
theorem step_byte {s : State} {b : Byte} {rest : List Event} (h : s.input = .byte b :: rest) :
    step s = .next (byteEventWith opTab b (s.fetched rest)) := by
  cases hc : s.control with
  | idle => rw [step_byte_idle h hc, exec_eq, opcode_decode]; rfl
  | acc cur need => rw [step_byte_acc h hc, byteEventWith, opcodeEvent_acc (s := s.fetched rest) hc]

theorem step_next_unique {s t u : State} (ht : step s = .next t) (hu : step s = .next u) : t = u :=
  Host.Outcome.next.inj (ht.symm.trans hu)

/-- Everything a step can do (40_parser.md R100, 60_exceptions.md R312). -/
theorem step_cases {s t : State} (h : step s = .next t) :
    (s.input = [] ∧ t = holdState s) ∨
    (∃ b rest, s.input = .byte b :: rest ∧ t = byteEventWith opTab b (s.fetched rest)) ∨
    (∃ rest, s.input = .endInput :: rest ∧ t = endEvent (s.fetched rest)) ∨
    (∃ rest, s.input = .reset :: rest ∧ t = resetEvent (s.fetched rest)) := by
  match hi : s.input with
  | [] => exact .inl ⟨rfl, step_next_unique h (step_noEvent hi)⟩
  | .byte b :: rest => exact .inr (.inl ⟨b, rest, rfl, step_next_unique h (step_byte hi)⟩)
  | .endInput :: rest => exact .inr (.inr (.inl ⟨rest, rfl, step_next_unique h (step_end hi)⟩))
  | .reset :: rest => exact .inr (.inr (.inr ⟨rest, rfl, step_next_unique h (step_reset hi)⟩))

/-- `records` is what End hands out in either phase (40_parser.md R106, R107). -/
theorem State.records_eq (s : State) : s.records = s.out ++ s.cur.toList := by
  cases hc : s.control with
  | idle => simp [State.records_idle hc, State.cur_idle hc]
  | acc cur need => simp [State.records_acc hc, State.cur_acc hc]

end Machine
end Sys2Proof
end

section
/-! PROOFS. Sequences of records: their bytes, their offsets, and what one more record or one more byte keeps. -/

namespace Sys2Proof.Machine

@[simp] theorem bytesOf_nil : bytesOf [] = [] := rfl

@[simp] theorem bytesOf_cons (r : Record) (rs : List Record) : bytesOf (r :: rs) = r.rawBytes ++ bytesOf rs := rfl

@[simp] theorem bytesOf_append (rs qs : List Record) : bytesOf (rs ++ qs) = bytesOf rs ++ bytesOf qs :=
  List.flatMap_append

/-- A record may follow a chain exactly where the bytes of the chain end. -/
theorem chained_concat (p : Nat) (rs : List Record) (r : Record) :
    chained p (rs ++ [r]) ↔ chained p rs ∧ r.offset = p + (bytesOf rs).length := by
  induction rs generalizing p with
  | nil => simp [chained]
  | cons q qs ih =>
    rw [List.cons_append, chained, chained, ih, and_assoc, bytesOf_cons, List.length_append, ← Nat.add_assoc]
    exact and_congr_right fun hq => by rw [Record.endPos, hq]

theorem chained_head {p : Nat} {rs : List Record} {r : Record} (h : chained p rs) (hr : rs[0]? = some r) :
    r.offset = p := by
  cases rs with
  | nil => simp at hr
  | cons q qs =>
    obtain rfl : q = r := by simpa using hr
    exact h.1

theorem chained_succ {p k : Nat} {rs : List Record} {r q : Record} (h : chained p rs) (hr : rs[k]? = some r)
    (hq : rs[k + 1]? = some q) : q.offset = r.endPos := by
  induction rs generalizing p k with
  | nil => simp at hr
  | cons x xs ih =>
    cases k with
    | zero =>
      obtain rfl : x = r := by simpa using hr
      exact chained_head h.2 (by simpa using hq)
    | succ k => exact ih h.2 (by simpa using hr) (by simpa using hq)

/-- The record an opcode byte starts (40_parser.md R102) has the byte's own row, and no more bytes than the mode asks for. -/
theorem newRecord_wf (pos : Nat) (b : Byte) : (newRecord pos (opTab b).1 (opTab b).2 b).WF :=
  ⟨Nat.le_refl 1, AddressingMode.len_pos _, rfl⟩

/-- An operand byte is added behind the opcode byte, so the row stays that of the first byte (40_parser.md R103). -/
theorem Record.WF.append {r : Record} (h : r.WF) (hlt : r.rawBytes.length < r.len) (b : Byte) : (r.append b).WF := by
  obtain ⟨hpos, -, hrow⟩ := h
  refine ⟨by simp, by simpa using hlt, ?_⟩
  rw [Record.append_rawBytes, List.getElem?_append_left hpos]
  exact hrow

/-- A well-formed record has the row of some instruction, so `Unknown` is its operation and its mode together
(30_encoding.md R65). -/
theorem Record.WF.operation_unknown_iff {r : Record} (h : r.WF) : r.operation = .Unknown ↔ r.addressMode = .Unknown := by
  obtain ⟨-, -, hrow⟩ := h
  obtain ⟨b, -, hb⟩ := Option.map_eq_some_iff.1 hrow
  obtain ⟨-, -, hpair⟩ := Laws.OpcodeRow.every (decode b)
  rw [opTab, Prod.mk.injEq] at hb
  rwa [hb.1, hb.2] at hpair

/-- An undefined byte is a record of its own (30_encoding.md R64, 10_state.md R26 (3)). -/
theorem Record.WF.length_of_unknown {r : Record} (h : r.WF) (hu : r.operation = .Unknown) : r.rawBytes.length = 1 := by
  have ⟨hpos, hle, _⟩ := h
  rw [Record.len, h.operation_unknown_iff.1 hu] at hle
  exact Nat.le_antisymm hle hpos

/-- The part of `State.Inv` about the records emitted so far (10_state.md R26). -/
def outInv (out : List Record) : Prop := (∀ r ∈ out, r.WF ∧ r.satisfied = true) ∧ chained 0 out

theorem State.inv_iff (s : State) : s.Inv ↔ outInv s.out ∧ controlInv s.pos s.out s.control := and_assoc.symm

theorem outInv_nil : outInv [] := ⟨by simp, trivial⟩

theorem outInv_concat {out : List Record} {r : Record} (h : outInv out) (hwf : r.WF) (hs : r.satisfied = true)
    (ho : r.offset = (bytesOf out).length) : outInv (out ++ [r]) := by
  obtain ⟨hall, hchain⟩ := h
  refine ⟨fun q hq => ?_, (chained_concat 0 out r).2 ⟨hchain, by simpa using ho⟩⟩
  rcases List.mem_append.1 hq with hq | hq
  · exact hall q hq
  · obtain rfl := List.mem_singleton.1 hq
    exact ⟨hwf, hs⟩

end Sys2Proof.Machine
end

section
/-! PROOFS. The invariant of the ISP (10_state.md R21, R23, R26): it holds at the start of an invocation and every operation
keeps it. -/

namespace Sys2Proof.Machine

theorem State.Fresh.inv {s : State} (h : s.Fresh) : s.Inv := by
  obtain ⟨hc, hp, ho⟩ := h
  rw [State.inv_iff, hc, hp, ho]
  exact ⟨outInv_nil, rfl⟩

/-- Emitting the record that starts where `out` ends, with `pos` now at its end, leaves `IDLE` in the invariant. -/
theorem inv_of_emit {s t : State} {r : Record} (hout : outInv s.out) (hwf : r.WF) (hs : r.satisfied = true)
    (ho : r.offset = (bytesOf s.out).length) (htout : t.out = s.out ++ [r]) (htpos : t.pos = r.endPos)
    (htc : t.control = .idle) : t.Inv := by
  rw [State.inv_iff, htc, htout, htpos]
  exact ⟨outInv_concat hout hwf hs ho, by simp [controlInv, Record.endPos, ho]⟩

theorem startRecord_inv {s : State} (h : s.Inv) (hc : s.control = .idle) (b : Byte) :
    (startRecord (opTab b).1 (opTab b).2 b s).Inv := by
  obtain ⟨hout, hctl⟩ := s.inv_iff.1 h
  have hpos : s.pos = (bytesOf s.out).length := by rwa [hc] at hctl
  have hwf := newRecord_wf s.pos b
  by_cases hlen : (opTab b).2.len = 1
  · rw [startRecord_one hlen]
    exact inv_of_emit hout hwf ((Record.satisfied_iff _).2 hlen.symm) hpos rfl rfl hc
  · rw [startRecord_more hlen, State.inv_iff]
    have hrange := AddressingMode.len_cases (opTab b).2
    refine ⟨hout, hwf, hpos, rfl, ?_, by omega, by omega⟩
    simp only [newRecord_rawBytes, newRecord_len, List.length_singleton]
    omega

theorem appendOperand_inv {s : State} {cur : Record} {need : Nat} (h : s.Inv) (hc : s.control = .acc cur need) (b : Byte) :
    (appendOperand cur need b s).Inv := by
  obtain ⟨hout, hctl⟩ := s.inv_iff.1 h
  rw [hc] at hctl
  obtain ⟨hwf, ho, hpos, hneed, h1, h2⟩ := hctl
  have hwf' : (cur.append b).WF := hwf.append (by omega) b
  have hpos' : s.pos + 1 = (cur.append b).endPos := by simp [hpos, Record.endPos, Nat.add_assoc]
  by_cases hn : need = 1
  · subst hn
    rw [appendOperand_last]
    exact inv_of_emit hout hwf' ((Record.satisfied_iff _).2 (by simpa using hneed)) ho rfl hpos' rfl
  · rw [appendOperand_more hn, State.inv_iff]
    refine ⟨hout, hwf', ho, hpos', ?_, by decide, by decide⟩
    simp only [Record.append_rawBytes, Record.append_len, List.length_append, List.length_singleton]
    omega

theorem byteEvent_inv {s : State} (h : s.Inv) (b : Byte) : (byteEventWith opTab b s).Inv := by
  cases hc : s.control with
  | idle => rw [byteEventWith, opcodeEvent_idle hc]; exact startRecord_inv h hc b
  | acc cur need => rw [byteEventWith, opcodeEvent_acc hc]; exact appendOperand_inv h hc b

/-- Settles O43: by the cases of the step; `State.Inv` does not speak of the fields that `fetched` and `holdState` write. -/
theorem stepKeepsTheInvariant : Obligations.StepKeepsTheInvariant := by
  intro s t h hstep
  obtain ⟨-, rfl⟩ | ⟨b, rest, -, rfl⟩ | ⟨rest, -, rfl⟩ | ⟨rest, -, rfl⟩ := step_cases hstep
  · exact h
  · exact byteEvent_inv (s := s.fetched rest) h b
  · exact State.Fresh.inv ⟨rfl, rfl, rfl⟩
  · exact State.Fresh.inv ⟨rfl, rfl, rfl⟩

/-- Settles O42: the reset state is the start of an invocation, with no byte consumed. -/
theorem resetMeetsTheInvariant : Obligations.ResetMeetsTheInvariant :=
  ⟨State.Fresh.inv ⟨rfl, rfl, rfl⟩, rfl, rfl⟩

end Sys2Proof.Machine
end

section
/-! PROOFS. What a step does to `out`, to `pos` and to the registers that End and Reset clear (10_state.md R21, R27, R32). -/

namespace Sys2Proof.Machine

theorem byteEvent_pos (b : Byte) (s : State) : (byteEventWith opTab b s).pos = s.pos + 1 := (opcodeEvent_cases _ _ b s).1

/-- With nothing on the bus before it, a `Byte` event adds to `out` what it puts on the bus (40_parser.md R105, R113). -/
theorem byteEvent_out {s : State} (hb : s.bus = none) (b : Byte) :
    (byteEventWith opTab b s).out = s.out ++ (byteEventWith opTab b s).bus.toList ∧
    (byteEventWith opTab b s).result = s.result := by
  obtain ⟨-, -, hres, ⟨r, n, -, hout, hbus⟩ | ⟨r, -, hout, hbus⟩⟩ := opcodeEvent_cases (opTab b).1 (opTab b).2 b s
  · exact ⟨by simp [byteEventWith, hout, hbus, hb], hres⟩
  · exact ⟨by simp [byteEventWith, hout, hbus], hres⟩

/-- In `IDLE`, the record of the opcode byte is either emitted or in progress (40_parser.md R102). -/
theorem byteEvent_idle_record {s : State} (hc : s.control = .idle) (b : Byte) :
    (byteEventWith opTab b s).bus = some (newRecord s.pos (opTab b).1 (opTab b).2 b) ∨
    (byteEventWith opTab b s).cur = some (newRecord s.pos (opTab b).1 (opTab b).2 b) := by
  rw [byteEventWith, opcodeEvent_idle hc]
  by_cases hlen : (opTab b).2.len = 1
  · exact .inl (by rw [startRecord_one hlen])
  · exact .inr (by rw [startRecord_more hlen]; rfl)

/-- Settles O17. -/
theorem emittedRecordsAreNeverChanged : Obligations.EmittedRecordsAreNeverChanged := by
  refine ⟨fun s t hin hstep => ?_, fun s t rest hin hstep => ?_, fun s t rest hin hstep => ?_⟩
  · obtain hnil | ⟨b, rest, hbyte⟩ := hin
    · obtain rfl := step_next_unique hstep (step_noEvent hnil)
      simp
    · obtain rfl := step_next_unique hstep (step_byte hbyte)
      exact byteEvent_out (s := s.fetched rest) rfl b
  · obtain rfl := step_next_unique hstep (step_end hin)
    simp [State.records_eq]
  · obtain rfl := step_next_unique hstep (step_reset hin)
    simp

/-- Settles O18. -/
theorem positionCountsBytes : Obligations.PositionCountsBytes := by
  refine fun s t hstep => ⟨fun hin => ?_, fun b rest hin => ?_, fun rest hin => ?_⟩
  · obtain rfl := step_next_unique hstep (step_noEvent hin)
    rfl
  · obtain rfl := step_next_unique hstep (step_byte hin)
    exact ⟨byteEvent_pos b _, fun hc => ⟨_, byteEvent_idle_record (s := s.fetched rest) hc b, rfl, rfl⟩⟩
  · obtain hend | hreset := hin
    · obtain rfl := step_next_unique hstep (step_end hend)
      rfl
    · obtain rfl := step_next_unique hstep (step_reset hreset)
      rfl

/-- Settles O13: both events leave the reset values, whatever the state was. -/
theorem afterEndTheStateIsTheResetState : Obligations.AfterEndTheStateIsTheResetState := by
  refine ⟨⟨rfl, rfl, rfl, rfl, rfl⟩, fun s rest hin => ?_⟩
  obtain hend | hreset := hin
  · exact ⟨_, step_end hend, rfl, rfl, rfl, rfl, rfl⟩
  · exact ⟨_, step_reset hreset, rfl, rfl, rfl, rfl, rfl⟩

end Sys2Proof.Machine
end

section
/-! PROOFS. The result of End under the invariant (10_state.md R26): `out`, and the record in progress as the only one that may
lack bytes. -/

namespace Sys2Proof.Machine

section
variable {s : State} (h : s.Inv)
include h

/-- Every record is well formed, and every one but the last, which may be `cur`, is satisfied. -/
theorem State.Inv.records_wf :
    (∀ r ∈ s.records, r.WF) ∧ (∀ r ∈ s.records.dropLast, r.satisfied = true) := by
  obtain ⟨⟨hall, -⟩, hctl⟩ := s.inv_iff.1 h
  cases hc : s.control with
  | idle =>
    rw [State.records_idle hc]
    exact ⟨fun r hr => (hall r hr).1, fun r hr => (hall r (List.dropLast_subset _ hr)).2⟩
  | acc cur need =>
    rw [hc] at hctl
    rw [State.records_acc hc, List.dropLast_concat]
    refine ⟨fun r hr => ?_, fun r hr => (hall r hr).2⟩
    rcases List.mem_append.1 hr with hr | hr
    · exact (hall r hr).1
    · exact List.mem_singleton.1 hr ▸ hctl.1

theorem State.Inv.records_chained : chained 0 s.records := by
  obtain ⟨⟨-, hchain⟩, hctl⟩ := s.inv_iff.1 h
  cases hc : s.control with
  | idle => rwa [State.records_idle hc]
  | acc cur need =>
    rw [hc] at hctl
    obtain ⟨-, ho, -⟩ := hctl
    rw [State.records_acc hc]
    exact (chained_concat 0 s.out cur).2 ⟨hchain, by simpa using ho⟩

end

/-- Only End puts out a result: `out` and the record in progress (40_parser.md R106, R107). -/
theorem result_eq_records {s t : State} {rs : List Record} (hstep : step s = .next t) (hres : t.result = some rs) :
    rs = s.records := by
  obtain ⟨-, rfl⟩ | ⟨b, rest, -, rfl⟩ | ⟨rest, -, rfl⟩ | ⟨rest, -, rfl⟩ := step_cases hstep
  · simp at hres
  · simp [(byteEvent_out (s := s.fetched rest) rfl b).2] at hres
  · simpa using hres.symm
  · simp at hres

/-- Settles O45: the result is `records`, which the invariant holds together. -/
theorem resultRecordsAreWellFormed : Obligations.ResultRecordsAreWellFormed := by
  intro s t rs h hstep hres
  obtain rfl := result_eq_records hstep hres
  obtain ⟨hwf, hsat⟩ := h.records_wf
  refine ⟨fun r hr => ?_, fun r hr => (Record.satisfied_iff r).1 (hsat r hr),
    fun k r q => chained_succ h.records_chained, fun r => chained_head h.records_chained⟩
  have hr' := hwf r hr
  have ⟨hpos, hle, hrow⟩ := hr'
  exact ⟨hpos, hle, hr'.operation_unknown_iff, hr'.length_of_unknown, hrow⟩

end Sys2Proof.Machine
end

section
/-! PROOFS. The registers on wires (10_state.md R34, 30_encoding.md R69): each code names back what was coded, and the widths
hold every value that the invariant allows. -/

namespace Sys2Proof.Machine

@[simp] theorem operationOfCode_operationCode (op : Operation) : operationOfCode (operationCode op) = some op := by
  cases op <;> rfl

@[simp] theorem modeOfCode_modeCode (m : AddressingMode) : modeOfCode (modeCode m) = some m := by
  cases m <;> rfl

/-- Three byte registers and a 2-bit count hold any list of at most three bytes. -/
theorem bytes_of_registers {bs : List Byte} (h : bs.length ≤ 3) :
    ([bs[0]?, bs[1]?, bs[2]?].take (BitVec.ofNat 2 bs.length).toNat).filterMap id = bs := by
  match bs, h with
  | [], _ => rfl
  | [_], _ => rfl
  | [_, _], _ => rfl
  | [_, _, _], _ => rfl

theorem recordOfWires_recordWires {r : Record} (h : r.rawBytes.length ≤ 3) : recordOfWires (recordWires r) = some r := by
  simp only [recordOfWires, recordWires, operationOfCode_operationCode, modeOfCode_modeCode, bytes_of_registers h]

theorem Record.WF.length_le {r : Record} (h : r.WF) : r.rawBytes.length ≤ 3 :=
  h.2.1.trans (AddressingMode.len_le _)

theorem controlOfWires_idle {s : State} (hc : s.control = .idle) : controlOfWires (stateWires s) = some .idle := by
  simp [controlOfWires, stateWires, State.phase, hc]

theorem controlOfWires_acc {s : State} {cur : Record} {need : Nat} (hc : s.control = .acc cur need)
    (hlen : cur.rawBytes.length ≤ 3) (hneed : need < 4) :
    controlOfWires (stateWires s) = some (.acc cur need) := by
  simp [controlOfWires, stateWires, State.phase, State.need, State.cur, hc, recordOfWires_recordWires hlen,
    Nat.mod_eq_of_lt hneed]

theorem stateWires_phase_eq_zero_iff (s : State) : (stateWires s).phase = 0 ↔ s.phase = .IDLE := by
  cases h : s.phase <;> simp [stateWires, h]

/-- Settles O50: under the invariant `cur` has at most three bytes and `need` is at most 2, so neither is cut. -/
theorem registersOnWiresLoseNothing : Obligations.RegistersOnWiresLoseNothing := by
  refine fun s h => ⟨?_, rfl, stateWires_phase_eq_zero_iff s⟩
  obtain ⟨-, -, hctl⟩ := h
  cases hc : s.control with
  | idle => exact controlOfWires_idle hc
  | acc cur need =>
    rw [hc] at hctl
    obtain ⟨hwf, -, -, -, -, hneed⟩ := hctl
    exact controlOfWires_acc hc hwf.length_le (by omega)

end Sys2Proof.Machine
end

section
/-! PROOFS. The opcode decoder and the encoder are inverse to one another (30_encoding.md R63 to R65): on well-formed
instructions one way, on every byte the other way. What is Unknown in the table is exactly the list of R64. -/

namespace Sys2Proof

/-- Every value in the list of 30_encoding.md R64 is a cell `-` of the map. -/
theorem decode_of_mem_undefinedOpcodes {b : Byte} (h : b ∈ undefinedOpcodes) : decode b = .unknown b := by
  revert b
  decide

/-- The map of 30_encoding.md R63 has no cell `-` outside the list of R64. -/
theorem wellFormed_decode (b : Byte) : (decode b).wellFormed = true := by
  revert b
  decide

theorem wellFormed_unknown_iff (b : Byte) : (Instr.unknown b).wellFormed = true ↔ b ∈ undefinedOpcodes :=
  List.contains_iff_mem

/-- The two tables of 30_encoding.md R63 agree: the cell of the opcode in the map is the instruction itself. -/
theorem decode_opcode {i : Instr} (h : i.wellFormed = true) : decode i.opcode = i := by
  cases i with
  | unknown b => exact decode_of_mem_undefinedOpcodes ((wellFormed_unknown_iff b).1 h)
  | _ => rfl

theorem mem_undefinedOpcodes_iff (b : Byte) : b ∈ undefinedOpcodes ↔ decode b = .unknown b := by
  refine ⟨decode_of_mem_undefinedOpcodes, fun h => ?_⟩
  rw [← wellFormed_unknown_iff, ← h]
  exact wellFormed_decode b

theorem Instr.operation_eq_unknown_iff (i : Instr) : i.operation = .Unknown ↔ i = .unknown i.opcode := by
  cases i <;> simp [Instr.operation, Instr.opcode]

/-- The operation alone shows that a byte is undefined (30_encoding.md R65). -/
theorem opTab_operation_eq_unknown_iff (b : Byte) : (opTab b).1 = .Unknown ↔ decode b = .unknown b := by
  have h := (decode b).operation_eq_unknown_iff
  rw [opcode_decode] at h
  exact h

/-- `Unknown` stands in both places of the pair or in none (30_encoding.md R65). -/
theorem opTab_unknown_iff (b : Byte) : (opTab b).1 = .Unknown ↔ (opTab b).2 = .Unknown :=
  (Laws.OpcodeRow.every (decode b)).2.2

theorem opTab_eq_unknown_iff (b : Byte) : opTab b = (.Unknown, .Unknown) ↔ decode b = .unknown b := by
  rw [Prod.ext_iff, ← opTab_unknown_iff, and_self, opTab_operation_eq_unknown_iff]

/-- The first byte is the whole opcode, and no operand byte is looked at (30_encoding.md R60, R67). -/
@[simp] theorem decodeBytes_cons (b : Byte) (rest : List Byte) : decodeBytes (b :: rest) = .ok (decode b, rest) := rfl

@[simp] theorem encodeWith_append (i : Instr) (operands rest : List Byte) :
    encodeWith i operands ++ rest = i.opcode :: (operands ++ rest) := rfl

theorem encode_decode (b : Byte) : encode (decode b) = [b] := by
  rw [encode, opcode_decode]

/-- Settles O6: the opcode byte alone is decoded, and it decodes to the instruction it was taken from. -/
theorem decodeOfEncodeIsTheInstruction : Obligations.DecodeOfEncodeIsTheInstruction := by
  intro i operands rest hwf
  have hdec : decode i.opcode = i := decode_opcode hwf
  constructor
  · rw [encodeWith_append, decodeBytes_cons, hdec]
  · rw [opTab, hdec]

/-- Settles O7. -/
theorem encodeOfDecodeIsTheByte : Obligations.EncodeOfDecodeIsTheByte :=
  ⟨fun b rest => ⟨decode b, decodeBytes_cons b rest, wellFormed_decode b, encode_decode b⟩, rfl⟩

/-- Settles O4: the list, the pair (Unknown, Unknown) and the instruction `unknown b` name the same bytes, and the meaning of
any instruction answers a next state. -/
theorem undefinedBytesAreUnknownAndOneByteLong : Obligations.UndefinedBytesAreUnknownAndOneByteLong := by
  refine ⟨by decide, by decide, fun b => ⟨?_, fun hb => ⟨?_, fun s => ?_⟩⟩⟩
  · rw [mem_undefinedOpcodes_iff, opTab_eq_unknown_iff]
  · rw [opcodeLen, (opTab_eq_unknown_iff b).2 (decode_of_mem_undefinedOpcodes hb)]
    rfl
  · exact ⟨_, Machine.exec_eq (decode b) s⟩

/-- Settles O5: what is not Unknown has an opcode in the table by mnemonic, which is the byte. -/
theorem opTabIsTotalAndPaired : Obligations.OpTabIsTotalAndPaired := fun b =>
  ⟨opTab_unknown_iff b, fun _ => ⟨opcode_decode b, rfl⟩, (opTab_operation_eq_unknown_iff b).1⟩

/-- Settles O1, by reading the five cells of the map. -/
theorem anchorRowsAreInTheTable : Obligations.AnchorRowsAreInTheTable :=
  ⟨rfl, rfl, rfl, rfl, rfl, rfl⟩

/-- Settles O2, by the equations of `AddressingMode.len`. -/
theorem lengthOfEachMode : Obligations.LengthOfEachMode :=
  ⟨rfl, rfl, rfl, rfl, rfl, rfl, rfl, rfl, rfl, rfl, rfl, rfl, rfl, rfl⟩

/-- Settles O3, by reading the twelve cells of the map. -/
theorem oneOpcodeOfEachKindDecodes : Obligations.OneOpcodeOfEachKindDecodes :=
  ⟨rfl, rfl, rfl, rfl, rfl, rfl, rfl, rfl, rfl, rfl, rfl, rfl⟩

end Sys2Proof
end

section
/-! PROOFS. `Decode` for any opcode table (40_parser.md R109, 93_implementation_defined.md U9): with no record in progress, an
opcode and as many operand bytes as its row asks for become one record, and the table is read at the opcode alone. -/

namespace Sys2Proof.Machine

section
variable {tab : Byte → Operation × AddressingMode}

/-- A byte after complete records starts a record of its own row. -/
theorem decodeByteWith_start {acc : List Record} (hacc : ∀ r ∈ acc.getLast?, r.satisfied = true) (p : Nat) (b : Byte) :
    decodeByteWith tab acc p b = acc ++ [newRecord p (tab b).1 (tab b).2 b] := by
  cases hlast : acc.getLast? with
  | none => simp [decodeByteWith, hlast]
  | some r => simp [decodeByteWith, hlast, hacc r hlast]

/-- A byte after a record that lacks bytes belongs to that record (40_parser.md R104). -/
theorem decodeByteWith_operand {r : Record} (hr : r.rawBytes.length ≠ r.len) (acc : List Record) (p : Nat) (b : Byte) :
    decodeByteWith tab (acc ++ [r]) p b = acc ++ [r.append b] := by
  simp [decodeByteWith, Record.satisfied, hr]

/-- The operand bytes that a record lacks are appended to it, in order. -/
theorem decodeFromWith_operands {r : Record} {operands : List Byte} (hlen : r.rawBytes.length + operands.length = r.len)
    (acc : List Record) (p : Nat) (rest : List Byte) :
    decodeFromWith tab (acc ++ [r]) p (operands ++ rest) =
      decodeFromWith tab (acc ++ [{ r with rawBytes := r.rawBytes ++ operands }]) (p + operands.length) rest := by
  induction operands generalizing r p with
  | nil => simp
  | cons b bs ih =>
    rw [List.length_cons] at hlen
    have hmore : r.rawBytes.length ≠ r.len := by omega
    have happ : (r.append b).rawBytes.length + bs.length = (r.append b).len := by
      rw [Record.append_len, Record.append_rawBytes, List.length_append, List.length_singleton]
      omega
    rw [List.cons_append, decodeFromWith, decodeByteWith_operand hmore, ih happ]
    simp [Record.append, Nat.add_assoc, Nat.add_comm 1]

/-- One whole instruction is one record, at the position of its opcode. -/
theorem decodeFromWith_instruction {b : Byte} {op : Operation} {mode : AddressingMode} (hrow : tab b = (op, mode))
    {operands : List Byte} (hlen : operands.length + 1 = mode.len) {acc : List Record}
    (hacc : ∀ r ∈ acc.getLast?, r.satisfied = true) (p : Nat) (rest : List Byte) :
    decodeFromWith tab acc p (b :: operands ++ rest) =
      decodeFromWith tab
        (acc ++ [{ offset := p, operation := op, addressMode := mode, rawBytes := b :: operands }])
        (p + (operands.length + 1)) rest := by
  rw [List.cons_append, decodeFromWith, decodeByteWith_start hacc, hrow,
    decodeFromWith_operands ((Nat.add_comm ..).trans hlen), Nat.add_assoc, Nat.add_comm 1]
  rfl

end

/-- Settles O41: the three opcodes are anchors, and the bytes between them are operands, at which the table is not read. -/
theorem anchorsAloneDecodeTheSourceExample : Obligations.AnchorsAloneDecodeTheSourceExample := by
  intro tab hlda hldy hjsr
  calc decodeStreamWith tab [0xA9, 0xBD, 0xA0, 0xBD, 0x20, 0x28, 0xBA]
      = decodeFromWith tab [⟨0, .LDA, .Immediate, [0xA9, 0xBD]⟩] 2 [0xA0, 0xBD, 0x20, 0x28, 0xBA] :=
        decodeFromWith_instruction hlda (operands := [0xBD]) rfl (by simp) 0 _
    _ = decodeFromWith tab [⟨0, .LDA, .Immediate, [0xA9, 0xBD]⟩, ⟨2, .LDY, .Immediate, [0xA0, 0xBD]⟩] 4
          [0x20, 0x28, 0xBA] :=
        decodeFromWith_instruction hldy (operands := [0xBD]) rfl (by decide) 2 _
    _ = [⟨0, .LDA, .Immediate, [0xA9, 0xBD]⟩, ⟨2, .LDY, .Immediate, [0xA0, 0xBD]⟩,
          ⟨4, .JSR, .Absolute, [0x20, 0x28, 0xBA]⟩] :=
        decodeFromWith_instruction hjsr (operands := [0x28, 0xBA]) rfl (by decide) 4 []

end Sys2Proof.Machine
end

section
/-! PROOFS. The numeric codes (30_encoding.md R69): each code is an index into its table, so the codes past the table name
nothing. -/

namespace Sys2Proof.Machine

theorem operationOfCode_eq_none {c : BitVec 6} (h : 57 ≤ c.toNat) : operationOfCode c = none :=
  List.getElem?_eq_none h

theorem modeOfCode_eq_none {c : BitVec 4} (h : 14 ≤ c.toNat) : modeOfCode c = none :=
  List.getElem?_eq_none h

/-- Settles O49: the codes name back their constructors, and the tables are those of R69, name by name. -/
theorem enumerationCodesAreABijection : Obligations.EnumerationCodesAreABijection := by
  refine ⟨operationOfCode_operationCode, modeOfCode_modeCode, by decide, by decide, ?_, rfl,
    fun _ => operationOfCode_eq_none, fun _ => modeOfCode_eq_none⟩
  simp [operationTable, mnemonicText]

end Sys2Proof.Machine
end

section
/-! PROOFS. `Decode` byte by byte (40_parser.md R109, R110), for any opcode table: what one byte more does to the records of
the bytes before it, and what every input therefore has in common. -/

namespace Sys2Proof.Machine

section
variable (tab : Byte → Operation × AddressingMode)

/-- Everything a round of the loop can do (40_parser.md R109): the byte starts a record after satisfied ones, or joins the
last record, which lacks bytes. -/
theorem decodeByteWith_cases (acc : List Record) (p : Nat) (b : Byte) :
    ((∀ r ∈ acc.getLast?, r.satisfied = true) ∧
      decodeByteWith tab acc p b = acc ++ [newRecord p (tab b).1 (tab b).2 b]) ∨
    ∃ qs r, acc = qs ++ [r] ∧ r.rawBytes.length ≠ r.len ∧ decodeByteWith tab acc p b = qs ++ [r.append b] := by
  by_cases hsat : ∀ r ∈ acc.getLast?, r.satisfied = true
  · exact .inl ⟨hsat, decodeByteWith_start hsat p b⟩
  · push Not at hsat
    obtain ⟨r, hlast, hr⟩ := hsat
    obtain ⟨qs, rfl⟩ := List.getLast?_eq_some_iff.1 hlast
    have hmore : r.rawBytes.length ≠ r.len := mt (Record.satisfied_iff r).2 hr
    exact .inr ⟨qs, r, rfl, hmore, decodeByteWith_operand hmore qs p b⟩

theorem decodeFromWith_append (acc : List Record) (p : Nat) (bs cs : List Byte) :
    decodeFromWith tab acc p (bs ++ cs) = decodeFromWith tab (decodeFromWith tab acc p bs) (p + bs.length) cs := by
  induction bs generalizing acc p with
  | nil => rfl
  | cons b bs ih => rw [List.cons_append, decodeFromWith, ih, List.length_cons, Nat.add_right_comm, Nat.add_assoc]; rfl

/-- The last byte of an input is one more round of the loop. -/
theorem decodeStreamWith_concat (bs : List Byte) (b : Byte) :
    decodeStreamWith tab (bs ++ [b]) = decodeByteWith tab (decodeStreamWith tab bs) bs.length b := by
  rw [decodeStreamWith, decodeFromWith_append, Nat.zero_add]; rfl

/-- A round of the loop puts its byte behind the bytes there are. -/
theorem bytesOf_decodeByteWith (acc : List Record) (p : Nat) (b : Byte) :
    bytesOf (decodeByteWith tab acc p b) = bytesOf acc ++ [b] := by
  obtain ⟨-, h⟩ | ⟨qs, r, rfl, -, h⟩ := decodeByteWith_cases tab acc p b <;> simp [h]

/-- `Record.WF` for the table `tab`: one byte to its full length, and the row of its first byte (10_state.md R26 (1), (3)). -/
structure Record.MatchesRow (r : Record) : Prop where
  nonempty : 1 ≤ r.rawBytes.length
  length_le : r.rawBytes.length ≤ r.len
  row : r.rawBytes[0]?.map tab = some (r.operation, r.addressMode)

variable {tab}

theorem newRecord_matchesRow (p : Nat) (b : Byte) : (newRecord p (tab b).1 (tab b).2 b).MatchesRow tab :=
  ⟨Nat.le_refl 1, AddressingMode.len_pos _, rfl⟩

theorem Record.MatchesRow.append {r : Record} (h : r.MatchesRow tab) (hmore : r.rawBytes.length ≠ r.len) (b : Byte) :
    (r.append b).MatchesRow tab where
  nonempty := by simp
  length_le := by simpa using Nat.lt_of_le_of_ne h.length_le hmore
  row := by
    rw [append_rawBytes, List.getElem?_append_left h.nonempty]
    exact h.row

/-- What 40_parser.md R110 says of the records of an input: they hold its bytes, each starts where the one before it ends,
each has the row of its first byte, and only the last may lack bytes. -/
structure DecodedFrom (tab : Byte → Operation × AddressingMode) (bs : List Byte) (rs : List Record) : Prop where
  bytes : bytesOf rs = bs
  chain : chained 0 rs
  rows : ∀ r ∈ rs, r.MatchesRow tab
  satisfied : ∀ r ∈ rs.dropLast, r.satisfied = true

theorem forall_mem_of_dropLast {P : Record → Prop} {rs : List Record} (hinit : ∀ r ∈ rs.dropLast, P r)
    (hlast : ∀ r ∈ rs.getLast?, P r) : ∀ r ∈ rs, P r := by
  obtain rfl | ⟨qs, q, rfl⟩ := rs.eq_nil_or_concat'
  · simp
  · exact List.forall_mem_append.2 ⟨by simpa using hinit, List.forall_mem_singleton.2 (by simpa using hlast)⟩

/-- One more byte keeps this: only the last record may lack bytes, so the byte comes behind all the bytes before it. -/
theorem DecodedFrom.concat {bs : List Byte} {rs : List Record} (h : DecodedFrom tab bs rs) (b : Byte) :
    DecodedFrom tab (bs ++ [b]) (decodeByteWith tab rs bs.length b) := by
  obtain ⟨hbytes, hchain, hrows, hsat⟩ := h
  have hbytes' := (bytesOf_decodeByteWith tab rs bs.length b).trans (congrArg (· ++ [b]) hbytes)
  obtain ⟨hlast, hdec⟩ | ⟨qs, r, rfl, hmore, hdec⟩ := decodeByteWith_cases tab rs bs.length b <;>
    rw [hdec] at hbytes' ⊢
  · refine ⟨hbytes', (chained_concat _ _ _).2 ⟨hchain, by simp [hbytes]⟩,
      List.forall_mem_append.2 ⟨hrows, List.forall_mem_singleton.2 (newRecord_matchesRow _ b)⟩, ?_⟩
    rw [List.dropLast_concat]
    exact forall_mem_of_dropLast hsat hlast
  · rw [chained_concat] at hchain
    rw [List.forall_mem_append, List.forall_mem_singleton] at hrows
    exact ⟨hbytes', (chained_concat _ _ _).2 hchain,
      List.forall_mem_append.2 ⟨hrows.1, List.forall_mem_singleton.2 (hrows.2.append hmore b)⟩, by simpa using hsat⟩

theorem decodedFrom_decodeStreamWith (tab : Byte → Operation × AddressingMode) (bs : List Byte) :
    DecodedFrom tab bs (decodeStreamWith tab bs) := by
  induction bs using List.reverseRecOn with
  | nil => exact ⟨rfl, trivial, List.forall_mem_nil _, List.forall_mem_nil _⟩
  | append_singleton bs b ih => rw [decodeStreamWith_concat]; exact ih.concat b

/-- Records of one to three bytes: at least as many bytes as records, and at most three times as many. -/
theorem length_bytesOf_bounds {rs : List Record} (h : ∀ r ∈ rs, r.MatchesRow tab) :
    rs.length ≤ (bytesOf rs).length ∧ (bytesOf rs).length ≤ 3 * rs.length := by
  induction rs with
  | nil => simp
  | cons r rs ih =>
    obtain ⟨hr, hrs⟩ := List.forall_mem_cons.1 h
    have hpos := hr.nonempty
    have hle : r.rawBytes.length ≤ 3 := hr.length_le.trans (AddressingMode.len_le _)
    have := ih hrs
    simp only [bytesOf_cons, List.length_append, List.length_cons]
    omega

end

/-- Settles O35: the bytes are kept one by one, and a record has one to three of them. -/
theorem decodeKeepsEveryByte : Obligations.DecodeKeepsEveryByte := by
  intro tab bs
  obtain ⟨hbytes, -, hrows, -⟩ := decodedFrom_decodeStreamWith tab bs
  have hlen := length_bytesOf_bounds hrows
  rw [hbytes] at hlen
  refine ⟨hbytes, ⟨fun hnil => ?_, fun hnil => by rw [hnil]; rfl⟩, by omega, hlen.1⟩
  rw [← hbytes, hnil, bytesOf_nil]

/-- Settles O36: the offsets are chained, and the last record ends where the bytes do. -/
theorem decodeOffsetsFollowOneAnother : Obligations.DecodeOffsetsFollowOneAnother := by
  intro tab bs
  obtain ⟨hbytes, hchain, hrows, -⟩ := decodedFrom_decodeStreamWith tab bs
  refine ⟨hchain, fun r hr => (hrows r hr).nonempty, fun k r q hr hq => ?_, fun r hr => ?_⟩
  · have hnext : q.offset = r.offset + r.rawBytes.length := chained_succ hchain hr hq
    have hpos := (hrows r (List.mem_of_getElem? hr)).nonempty
    exact ⟨hnext, by omega⟩
  · obtain ⟨qs, hqs⟩ := List.getLast?_eq_some_iff.1 hr
    rw [hqs] at hbytes hchain
    obtain ⟨-, hoff⟩ := (chained_concat 0 qs r).1 hchain
    simp [Record.endPos, hoff, ← hbytes]

/-- Settles O37. -/
theorem decodeLengthsMatchTheMode : Obligations.DecodeLengthsMatchTheMode := by
  intro tab bs
  obtain ⟨-, -, hrows, hsat⟩ := decodedFrom_decodeStreamWith tab bs
  exact ⟨fun r hr => ⟨(hrows r hr).row, (hrows r hr).length_le⟩, hsat⟩

end Sys2Proof.Machine
end

section
/-! PROOFS. The ISP computes `Decode` as its bytes arrive (40_parser.md R109): under the invariant a `Byte` event does to the
records what a round of the reference loop does. -/

namespace Sys2Proof.Machine

/-- In `IDLE` all records are satisfied and the byte starts one; in `ACC` the last one is not, and the byte joins it. -/
theorem byteEvent_records {s : State} (h : s.Inv) (b : Byte) :
    (byteEventWith opTab b s).records = decodeByteWith opTab s.records s.pos b := by
  obtain ⟨hall, -, hctl⟩ := h
  cases hc : s.control with
  | idle =>
    have hlast : ∀ r ∈ s.out.getLast?, r.satisfied = true := fun r hr => (hall r (List.mem_of_getLast? hr)).2
    rw [State.records_idle hc, decodeByteWith_start hlast, byteEventWith, opcodeEvent_idle hc]
    by_cases hlen : (opTab b).2.len = 1
    · rw [startRecord_one hlen]; exact State.records_idle hc
    · rw [startRecord_more hlen]; rfl
  | acc cur need =>
    rw [hc] at hctl
    obtain ⟨-, -, -, hneed, hpos, -⟩ := hctl
    rw [State.records_acc hc, decodeByteWith_operand (by omega), byteEventWith, opcodeEvent_acc hc]
    by_cases hn : need = 1
    · subst hn; rw [appendOperand_last]; rfl
    · rw [appendOperand_more hn]; rfl

theorem byteEvent_bytes {s : State} (h : s.Inv) (b : Byte) :
    bytesOf (byteEventWith opTab b s).records = bytesOf s.records ++ [b] := by
  rw [byteEvent_records h, bytesOf_decodeByteWith]

theorem byteEvent_decodes {s : State} (h : s.Inv) (hd : s.DecodesItsBytes) (b : Byte) :
    (byteEventWith opTab b s).DecodesItsBytes := by
  obtain ⟨hdec, hlen⟩ := hd
  refine ⟨?_, by rw [byteEvent_bytes h, byteEvent_pos, List.length_append, hlen]; rfl⟩
  rw [byteEvent_bytes h, decodeStream, decodeStreamWith_concat, ← decodeStream, hdec, hlen, byteEvent_records h]

theorem State.Fresh.records {s : State} (h : s.Fresh) : s.records = [] := by
  rw [State.records_idle h.1, h.2.2]

/-- At the start of an invocation no byte is consumed. -/
theorem State.Fresh.decodes {s : State} (h : s.Fresh) : s.DecodesItsBytes := by
  rw [State.DecodesItsBytes, h.records, h.2.1]
  exact ⟨rfl, rfl⟩

/-- Settles O44: by the cases of the step; a byte is one round of the reference loop, and End and Reset start again. -/
theorem stepKeepsDecodeOfTheConsumedBytes : Obligations.StepKeepsDecodeOfTheConsumedBytes := by
  intro s t h hd hstep
  obtain ⟨hin, rfl⟩ | ⟨b, rest, hin, rfl⟩ | ⟨rest, hin, rfl⟩ | ⟨rest, hin, rfl⟩ := step_cases hstep
  · exact ⟨hd, by simp [hin], fun _ => rfl, by simp [hin]⟩
  · have h' : (s.fetched rest).Inv := h
    refine ⟨byteEvent_decodes h' hd b, fun c later hc => ?_, by simp [hin], by simp [hin]⟩
    obtain ⟨rfl, -⟩ : b = c ∧ rest = later := by simpa [hin] using hc
    exact byteEvent_bytes h' b
  all_goals exact ⟨State.Fresh.decodes ⟨rfl, rfl, rfl⟩, by simp [hin], by simp [hin], fun _ _ => ⟨rfl, rfl⟩⟩

end Sys2Proof.Machine
end

section
/-! PROOFS. One step of the parser, event by event (40_parser.md R100 to R107), and each instruction's meaning as the event of
its opcode byte (R101 to R104). -/

namespace Sys2Proof.Machine

/-- The meaning of the instruction a byte decodes to is the `Byte` event of the opcode table. -/
theorem exec_decode (b : Byte) (s : State) : exec (decode b) s = .next (byteEventWith opTab b s) := by
  rw [exec_eq, opcode_decode]; rfl

/-- In `ACC` the meaning of any instruction is that its opcode byte joins `cur`. -/
theorem exec_acc {s : State} {cur : Record} {need : Nat} (hc : s.control = .acc cur need) (i : Instr) :
    exec i s = .next (appendOperand cur need i.opcode s) := by
  rw [exec_eq, runOpcode, opcodeEvent_acc hc]

@[simp] theorem byteEvent_input (b : Byte) (s : State) : (byteEventWith opTab b s).input = s.input :=
  (opcodeEvent_cases _ _ b s).2.1

@[simp] theorem byteEvent_result (b : Byte) (s : State) : (byteEventWith opTab b s).result = s.result :=
  (opcodeEvent_cases _ _ b s).2.2.1

/-- The record of a byte is either left in progress or put on the bus (40_parser.md R102, R103). -/
theorem byteEvent_bus_or_cur {s : State} (hb : s.bus = none) (b : Byte) :
    ((byteEventWith opTab b s).bus = none ∧ (byteEventWith opTab b s).cur.isSome = true) ∨
    ((byteEventWith opTab b s).bus.isSome = true ∧ (byteEventWith opTab b s).cur = none) := by
  obtain ⟨-, -, -, ⟨r, n, hacc, -, hbus⟩ | ⟨r, hidle, -, hbus⟩⟩ := opcodeEvent_cases (opTab b).1 (opTab b).2 b s
  · exact .inl ⟨hbus.trans hb, Option.isSome_of_eq_some (State.cur_acc hacc)⟩
  · exact .inr ⟨Option.isSome_of_eq_some hbus, State.cur_idle hidle⟩

/-- A byte appended to `cur` is in the record that is then in progress or on the bus (40_parser.md R103). -/
theorem appendOperand_record (cur : Record) (need : Nat) (b : Byte) (s : State) :
    (appendOperand cur need b s).cur = some (cur.append b) ∨
    (appendOperand cur need b s).cur = none ∧ (appendOperand cur need b s).bus = some (cur.append b) := by
  by_cases hn : need = 1
  · subst hn; rw [appendOperand_last]; exact .inr ⟨rfl, rfl⟩
  · rw [appendOperand_more hn]; exact .inl rfl

/-- End with no record in progress (40_parser.md R107). -/
theorem step_end_idle {s : State} {rest : List Event} (hc : s.control = .idle) (hin : s.input = .endInput :: rest) :
    step s = .next { control := .idle, pos := 0, out := [], bus := none, result := some s.out, input := rest } := by
  rw [step_end hin, endEvent, State.fetched_cur, State.cur_idle hc, State.fetched_records, State.records_idle hc]; rfl

/-- End with the record `cur` in progress (40_parser.md R106). -/
theorem step_end_acc {s : State} {cur : Record} {need : Nat} {rest : List Event} (hc : s.control = .acc cur need)
    (hin : s.input = .endInput :: rest) :
    step s = .next
      { control := .idle, pos := 0, out := [], bus := some cur, result := some (s.out ++ [cur]), input := rest } := by
  rw [step_end hin, endEvent, State.fetched_cur, State.cur_acc hc, State.fetched_records, State.records_acc hc]; rfl

/-- Settles O8: the bytes after the opcode byte are left on the host's list. -/
theorem stepRunsTheDecodedInstruction : Obligations.StepRunsTheDecodedInstruction := by
  intro s b bs later i hc hin hdec
  obtain rfl : decode b = i := by simpa using hdec
  exact step_byte_idle hin hc

/-- Settles O10: the two branches of the rule are those of `appendOperand`. -/
theorem operandByteIsAppended : Obligations.OperandByteIsAppended := by
  intro s cur need b rest hc hin
  rw [step_byte_acc hin hc]
  constructor <;> rintro rfl
  · rw [appendOperand_last]; rfl
  · rw [appendOperand_more (by decide)]; rfl

/-- Settles O16: every case of the step and every meaning is a next state. -/
theorem noEventIsRefusedOrFaults : Obligations.NoEventIsRefusedOrFaults := by
  refine ⟨fun s => ?_, fun i s => ⟨_, exec_eq i s⟩⟩
  match hin : s.input with
  | [] => exact ⟨_, step_noEvent hin, hin⟩
  | .byte b :: rest => exact ⟨_, step_byte hin, byteEvent_input b _⟩
  | .endInput :: rest => exact ⟨_, step_end hin, rfl⟩
  | .reset :: rest => exact ⟨_, step_reset hin, rfl⟩

/-- Settles O28: a new record of the byte's row, of length 1 or longer. -/
theorem meaningsAgreeWithTheTable : Obligations.MeaningsAgreeWithTheTable := by
  intro b s
  refine ⟨exec_decode b s, fun hc hlen => ?_, fun hc hlen => ?_⟩ <;> rw [exec_decode, byteEventWith, opcodeEvent_idle hc]
  · rw [startRecord_one hlen]; rfl
  · rw [startRecord_more hlen]; rfl

/-- Settles O29. -/
theorem opcodeByteInAccIsAnOperand : Obligations.OpcodeByteInAccIsAnOperand := by
  intro i s cur need hc
  rw [exec_acc hc]
  constructor <;> rintro rfl
  · rw [appendOperand_last]; rfl
  · rw [appendOperand_more (by decide)]; rfl

/-- Settles O30: the cases of a `Byte` event are the frame, and a record in progress only grows by a byte. -/
theorem instructionFrame : Obligations.InstructionFrame := by
  intro i s t hexec
  obtain rfl : opcodeEvent i.operation i.mode i.opcode s = t := Host.Outcome.next.inj ((exec_eq i s).symm.trans hexec)
  obtain ⟨hpos, hinput, hresult, hrecord⟩ := opcodeEvent_cases i.operation i.mode i.opcode s
  refine ⟨hinput, hresult, hpos, hrecord, fun cur need hc => ?_⟩
  rw [opcodeEvent_acc hc]
  exact ⟨cur.append i.opcode, appendOperand_record cur need i.opcode s, rfl, rfl, rfl, List.dropLast_concat⟩

/-- Settles O46: a byte either emits its record and leaves none in progress, or leaves one for End to emit. -/
theorem atMostOneRecordPerClockEdge : Obligations.AtMostOneRecordPerClockEdge := by
  intro s b later hin
  refine ⟨_, _, step_byte hin, step_end (byteEvent_input b _), ?_, ?_, by simp [State.done], rfl⟩ <;> intro hbus
  · obtain ⟨hnone, -⟩ | ⟨-, hcur⟩ := byteEvent_bus_or_cur (s := s.fetched (.endInput :: later)) rfl b
    · simp [hnone] at hbus
    · exact hcur
  · obtain ⟨-, hcur⟩ | ⟨hsome, -⟩ := byteEvent_bus_or_cur (s := s.fetched (.endInput :: later)) rfl b
    · exact ⟨rfl, hcur⟩
    · simp [hbus] at hsome

end Sys2Proof.Machine
end

section
/-! PROOFS. A clock edge with one event or none is one step (40_parser.md R113, 60_exceptions.md R305, R312). -/

namespace Sys2Proof.Machine

/-- The outputs of such an edge are those of the step: the record on its bus, with its codes and bytes, and its `done`. -/
theorem edgeIsTheStepOn_of_step {e : Edge} {events : List Event} {s t : State} (hev : e.events = events)
    (hone : events.length ≠ 2) (hstep : step { s with input := events } = .next t) {done : Bool} (hdone : t.done = done) :
    EdgeIsTheStepOn events done e s := by
  subst hev hdone
  refine ⟨t, t.ports, hstep, clockEdge_one hone hstep, rfl, ?_, fun hb => ?_, fun r hb => ?_⟩
  · simp [State.ports, portOut, Option.isSome_iff_exists]
  · simp [State.ports, portOut, hb]
  · simp [State.ports, portOut, hb, recordWires]

/-- Settles O48. -/
theorem edgesWithOneEventOrNone : Obligations.EdgesWithOneEventOrNone := by
  intro e s hrst
  refine ⟨fun hv he => ?_, fun hv he => ?_, fun hv he => ?_⟩
  · exact edgeIsTheStepOn_of_step (Edge.events_byte hrst hv he) (by simp) (step_byte rfl) (by simp [State.done])
  · exact edgeIsTheStepOn_of_step (Edge.events_end hrst hv he) (by simp) (step_end rfl) rfl
  · have hev := Edge.events_none hrst hv he
    refine ⟨edgeIsTheStepOn_of_step hev (by simp) (step_noEvent rfl) rfl,
      (holdState { s with input := e.events }).ports, ?_, rfl, rfl⟩
    exact clockEdge_one (by simp [hev]) (step_noEvent hev)

end Sys2Proof.Machine
end

section
/-! PROOFS. An instruction placed where the step fetches (log entry 11): the bytes of a word in stream order. -/

namespace Sys2Proof.Machine

theorem three_le_length_tableWordBytes (nbits w : Nat) : 3 ≤ (tableWordBytes nbits w).length := by
  simp [tableWordBytes]

theorem tableWordBytes_eq_cons (nbits w : Nat) :
    tableWordBytes nbits w = BitVec.ofNat 8 (w % 2 ^ nbits) :: (tableWordBytes nbits w).drop 1 := by
  have hlen := three_le_length_tableWordBytes nbits w
  have hhead : (tableWordBytes nbits w)[0] = BitVec.ofNat 8 (w % 2 ^ nbits) := by
    have := tableWordBytes_getElem? (k := 0) (by decide) nbits w
    rw [List.getElem?_eq_getElem (by omega)] at this
    simpa [wordByte] using this
  rw [← hhead, ← List.drop_eq_getElem_cons (by omega), List.drop_zero]

theorem decodeTableWord_eq_some_iff {nbits w : Nat} {i : Instr} :
    decodeTableWord nbits w = some i ↔ decode (BitVec.ofNat 8 (w % 2 ^ nbits)) = i := by
  rw [decodeTableWord, tableWordBytes_eq_cons, decodeBytes_cons, Option.some_inj]

/-- Behind the opcode byte, the bytes of one instruction are as many operand bytes as its mode asks for. -/
theorem instrBytes_cons (b : Byte) (rest : List Byte) :
    instrBytes (b :: rest) = b :: rest.take ((decode b).mode.len - 1) := by
  have hpos := AddressingMode.len_pos (decode b).mode
  rw [instrBytes, opcodeLen, opTab, ← Nat.sub_add_cancel hpos, List.take_succ_cons, Nat.add_sub_cancel]

/-- Settles O9: the first byte of the word is the opcode that the next step runs. -/
theorem fetchWordPlacesTheInstruction : Obligations.FetchWordPlacesTheInstruction := by
  intro s nbits w i hi
  obtain rfl := decodeTableWord_eq_some_iff.1 hi
  have hmax := AddressingMode.len_le (decode (BitVec.ofNat 8 (w % 2 ^ nbits))).mode
  have hlen := three_le_length_tableWordBytes nbits w
  refine ⟨?_, ?_, rfl, fun k hk => tableWordBytes_getElem? (by omega) nbits w⟩
  · refine step_byte_idle ?_ rfl
    rw [State.withFetchWord, placeBytes_input]
    conv_lhs => rw [tableWordBytes_eq_cons, instrBytes_cons]
    rfl
  · rw [List.length_take, List.length_drop]
    omega

end Sys2Proof.Machine
end

section
/-! PROOFS. Runs of the ISP on the bytes of an input: the state they lead to, and what is on the bus on the way (40_parser.md
R109, R113). -/

namespace Sys2Proof.Machine

theorem coreRun_succ {M : Host.Core} {s t : M.State} (h : M.step s = .next t) (k : Nat) : M.run (k + 1) s = M.run k t := by
  rw [Host.Core.run, h]

theorem run_succ {s t : State} (h : step s = .next t) (k : Nat) :
    Host.Core.run Sys2Proof.core (k + 1) s = Host.Core.run Sys2Proof.core k t :=
  coreRun_succ (M := Sys2Proof.core) h k

theorem run_add {m : Nat} {s u : State} (h : Host.Core.run Sys2Proof.core m s = .next u) (n : Nat) :
    Host.Core.run Sys2Proof.core (m + n) s = Host.Core.run Sys2Proof.core n u := by
  induction m generalizing s with
  | zero => rw [Nat.zero_add, Host.Outcome.next.inj h]
  | succ m ih =>
    obtain ⟨t, ht, -⟩ := noEventIsRefusedOrFaults.1 s
    rw [run_succ ht] at h
    rw [Nat.add_right_comm, run_succ ht, ih h]

/-- A run of `m` steps and one step more. -/
theorem run_add_one {m : Nat} {s u t : State} (h : Host.Core.run Sys2Proof.core m s = .next u) (ht : step u = .next t) :
    Host.Core.run Sys2Proof.core (m + 1) s = .next t :=
  (run_add h 1).trans (run_succ ht 0)

theorem collectBus_succ {s t : State} (h : step s = .next t) (k : Nat) :
    collectBus (k + 1) s = t.bus.toList ++ collectBus k t := by
  rw [collectBus, h]

theorem collectBus_add {m : Nat} {s u : State} (h : Host.Core.run Sys2Proof.core m s = .next u) (n : Nat) :
    collectBus (m + n) s = collectBus m s ++ collectBus n u := by
  induction m generalizing s with
  | zero => rw [Nat.zero_add, Host.Outcome.next.inj h]; rfl
  | succ m ih =>
    obtain ⟨t, ht, -⟩ := noEventIsRefusedOrFaults.1 s
    rw [run_succ ht] at h
    rw [Nat.add_right_comm, collectBus_succ ht, ih h, collectBus_succ ht, List.append_assoc]

@[simp] theorem byteEvents_nil : byteEvents [] = [] := rfl

@[simp] theorem byteEvents_cons (b : Byte) (bs : List Byte) : byteEvents (b :: bs) = .byte b :: byteEvents bs := rfl

@[simp] theorem byteEvents_append (bs cs : List Byte) : byteEvents (bs ++ cs) = byteEvents bs ++ byteEvents cs :=
  List.map_append

/-- The state after as many steps as there are bytes, when those bytes are the host's next events. -/
def State.afterBytes (s : State) : List Byte → State
  | [] => s
  | b :: bs => (byteEventWith opTab b (s.fetched s.input.tail)).afterBytes bs

section
variable {s : State} {bs : List Byte} {later : List Event}

theorem step_byteEvents {b : Byte} (hin : s.input = byteEvents (b :: bs) ++ later) :
    step s = .next (byteEventWith opTab b (s.fetched s.input.tail)) ∧
    (byteEventWith opTab b (s.fetched s.input.tail)).input = byteEvents bs ++ later := by
  have hin' : s.input = .byte b :: (byteEvents bs ++ later) := hin
  rw [hin', List.tail_cons]
  exact ⟨step_byte hin', byteEvent_input b _⟩

theorem run_byteEvents (hin : s.input = byteEvents bs ++ later) :
    Host.Core.run Sys2Proof.core bs.length s = .next (s.afterBytes bs) := by
  induction bs generalizing s with
  | nil => rfl
  | cons b bs ih =>
    obtain ⟨hstep, hrest⟩ := step_byteEvents hin
    exact (run_succ hstep bs.length).trans (ih hrest)

theorem afterBytes_input (hin : s.input = byteEvents bs ++ later) : (s.afterBytes bs).input = later := by
  induction bs generalizing s with
  | nil => exact hin
  | cons b bs ih => exact ih (step_byteEvents hin).2

/-- The records emitted on the way were on the bus, one by one. -/
theorem afterBytes_out (hin : s.input = byteEvents bs ++ later) :
    (s.afterBytes bs).out = s.out ++ collectBus bs.length s := by
  induction bs generalizing s with
  | nil => simp [State.afterBytes, collectBus]
  | cons b bs ih =>
    obtain ⟨hstep, hrest⟩ := step_byteEvents hin
    rw [State.afterBytes, ih hrest, List.length_cons, collectBus_succ hstep, ← List.append_assoc,
      (byteEvent_out (State.fetched_bus s _) b).1]
    rfl

end

/-- No byte makes a result. -/
theorem afterBytes_result {s : State} {bs : List Byte} (h : bs ≠ [] ∨ s.result = none) :
    (s.afterBytes bs).result = none := by
  induction bs generalizing s with
  | nil => simpa [State.afterBytes] using h
  | cons b bs ih => exact ih (.inr (by simp))

/-- The bytes are put behind the bytes of the records, and the records stay `Decode` of their bytes. -/
theorem afterBytes_decodes {s : State} (h : s.Inv) (hd : s.DecodesItsBytes) (bs : List Byte) :
    (s.afterBytes bs).DecodesItsBytes ∧ bytesOf (s.afterBytes bs).records = bytesOf s.records ++ bs := by
  induction bs generalizing s with
  | nil => exact ⟨hd, (List.append_nil _).symm⟩
  | cons b bs ih =>
    have h' : (s.fetched s.input.tail).Inv := h
    obtain ⟨hdec, hbytes⟩ := ih (byteEvent_inv h' b) (byteEvent_decodes h' hd b)
    exact ⟨hdec, by rw [State.afterBytes, hbytes, byteEvent_bytes h']; simp⟩

/-- From the start of an invocation the records are `Decode` of the bytes, and `pos` counts them. -/
theorem State.Fresh.afterBytes_records {s : State} (h : s.Fresh) (bs : List Byte) :
    (s.afterBytes bs).records = decodeStream bs ∧ (s.afterBytes bs).pos = bs.length := by
  obtain ⟨⟨hdec, hpos⟩, hbytes⟩ := afterBytes_decodes h.inv h.decodes bs
  rw [h.records, bytesOf_nil, List.nil_append] at hbytes
  rw [hbytes] at hdec hpos
  exact ⟨hdec.symm, hpos.symm⟩

/-- The bytes of an input and End, from the start of an invocation. -/
theorem State.Fresh.run_end {s : State} {bs : List Byte} {later : List Event} (h : s.Fresh)
    (hin : s.input = byteEvents bs ++ .endInput :: later) :
    ∃ t, Host.Core.run Sys2Proof.core (bs.length + 1) s = .next t ∧ t.result = some (decodeStream bs) ∧ t.Fresh ∧
      t.input = later := by
  refine ⟨_, run_add_one (run_byteEvents hin) (step_end (afterBytes_input hin)), ?_, ⟨rfl, rfl, rfl⟩, rfl⟩
  rw [endEvent_result, State.fetched_records, (h.afterBytes_records bs).1]

/-- Settles O34. -/
theorem endReturnsDecodeOfTheBytes : Obligations.EndReturnsDecodeOfTheBytes := fun _ bs _ hfresh hin =>
  ⟨⟨_, run_byteEvents hin, hfresh.afterBytes_records bs⟩, hfresh.run_end hin⟩

/-- Settles O38: the bus shows `out` as it grows, and the record in progress, if any, on the step of End. -/
theorem busRecordsAreTheResult : Obligations.BusRecordsAreTheResult := by
  intro s bs later hfresh hin
  have hrun := run_byteEvents hin
  have hend := step_end (afterBytes_input hin)
  have hbus : collectBus (bs.length + 1) s = (s.afterBytes bs).records := by
    rw [collectBus_add hrun, collectBus_succ hend, collectBus, List.append_nil, endEvent_bus, State.fetched_cur,
      State.records_eq, afterBytes_out hin, hfresh.2.2, List.nil_append]
  refine ⟨_, run_add_one hrun hend, rfl, congrArg some hbus.symm, hbus.trans (hfresh.afterBytes_records bs).1,
    fun k hk hkn => ?_⟩
  have hsplit : s.input = byteEvents (bs.take k) ++ (byteEvents (bs.drop k) ++ .endInput :: later) := by
    rw [hin, ← List.append_assoc, ← byteEvents_append, List.take_append_drop]
  have hlen : (bs.take k).length = k := List.length_take_of_le hkn
  have hrunk := run_byteEvents hsplit
  rw [hlen] at hrunk
  refine ⟨_, hrunk, ?_⟩
  have hne : bs.take k ≠ [] := List.ne_nil_of_length_pos (by omega)
  rw [State.done, afterBytes_result (.inl hne)]; rfl

/-- Settles O39: End leaves the start of an invocation, so the second one is like the first. -/
theorem invocationsAreIndependent : Obligations.InvocationsAreIndependent := by
  intro s a b later hfresh hin
  obtain ⟨u, hrun, -, hu, huin⟩ := hfresh.run_end hin
  obtain ⟨t, ht, hresult, -, htin⟩ := hu.run_end huin
  exact ⟨t, (run_add hrun _).trans ht, hresult, htin⟩

/-- Settles O12: the first End leaves `IDLE` with nothing emitted, which is what a second one returns. -/
theorem endWithNoRecordInProgress : Obligations.EndWithNoRecordInProgress := by
  refine ⟨fun s rest => step_end_idle, fun s rest hfresh hin => ?_, fun s rest hin => ?_⟩
  · exact ⟨_, step_end_idle hfresh.1 hin, congrArg some hfresh.2.2⟩
  · exact ⟨_, (run_succ (step_end hin) 1).trans (run_succ (step_end rfl) 0), rfl⟩

/-- Settles O11: the flushed record is `cur`, and `need` is at least 1; `20 28` is an input like any other. -/
theorem endFlushesTheTruncatedRecord : Obligations.EndFlushesTheTruncatedRecord := by
  refine ⟨fun s cur need rest hc hin => ⟨step_end_acc hc hin, fun hinv => ?_⟩, fun s later hfresh hin => ?_⟩
  · obtain ⟨-, -, hctl⟩ := hinv
    rw [hc] at hctl
    obtain ⟨⟨-, -, hrow⟩, -, -, hneed, hpos, -⟩ := hctl
    exact ⟨by omega, hrow⟩
  · obtain ⟨t, hrun, hresult, -, htin⟩ := hfresh.run_end (bs := [0x20, 0x28]) hin
    exact ⟨t, hrun, htin, hresult.trans (by rfl)⟩

end Sys2Proof.Machine
end

section
/-! PROOFS. The bytes of one instruction from `IDLE` (40_parser.md R102 to R106): all of them, too few of them, and runs of
undefined bytes (R111). -/

namespace Sys2Proof.Machine

/-- In `IDLE` the opcode byte of a well-formed instruction starts the record of its row. -/
theorem step_opcode {i : Instr} {s : State} {rest : List Event} (hwf : i.wellFormed = true) (hc : s.control = .idle)
    (hin : s.input = .byte i.opcode :: rest) :
    step s = .next (startRecord i.operation i.mode i.opcode (s.fetched rest)) := by
  rw [step_byte_idle hin hc, decode_opcode hwf, exec_eq, runOpcode, opcodeEvent_idle (s := s.fetched rest) hc]

/-- Operand bytes, fewer than `cur` needs, are appended to it and nothing is emitted. A record needs at most two. -/
theorem run_operands {need : Nat} {operands : List Byte} (hneed : need ≤ 2) (hmore : operands.length < need)
    (cur : Record) (pos : Nat) (out : List Record) (later : List Event) :
    Host.Core.run Sys2Proof.core operands.length
      ({ control := .acc cur need, pos := pos, out := out, bus := none, result := none,
         input := byteEvents operands ++ later } : State) = .next
      { control := .acc { cur with rawBytes := cur.rawBytes ++ operands } (need - operands.length),
        pos := pos + operands.length, out := out, bus := none, result := none, input := later } := by
  match operands, hmore with
  | [], _ => rw [List.append_nil]; rfl
  | [b], hmore =>
    obtain rfl : need = 2 := Nat.le_antisymm hneed hmore
    refine (run_succ (step_byte_acc rfl rfl) 0).trans ?_
    rw [appendOperand_more (by decide)]; rfl
  | _ :: _ :: _, hmore => simp only [List.length_cons] at hmore; omega

/-- The bytes of an instruction that lack at least one, from `IDLE`: its record is in progress. -/
theorem run_truncated {i : Instr} {operands : List Byte} {s : State} {later : List Event} (hwf : i.wellFormed = true)
    (hmore : operands.length + 1 < i.mode.len) (hc : s.control = .idle)
    (hin : s.input = byteEvents (encodeWith i operands) ++ later) :
    Host.Core.run Sys2Proof.core (operands.length + 1) s = .next
      { control := .acc
          { offset := s.pos, operation := i.operation, addressMode := i.mode, rawBytes := i.opcode :: operands }
          (i.mode.len - 1 - operands.length),
        pos := s.pos + (operands.length + 1), out := s.out, bus := none, result := none, input := later } := by
  have hmax := AddressingMode.len_le i.mode
  refine (run_succ (step_opcode hwf hc hin) _).trans ?_
  rw [startRecord_more (by omega), Nat.add_comm operands.length 1, ← Nat.add_assoc]
  exact run_operands (by omega) (by omega) _ (s.pos + 1) s.out later

/-- Settles O31: without its last byte an instruction is truncated, and its last byte emits it. -/
theorem wholeInstructionEmitsOneRecord : Obligations.WholeInstructionEmitsOneRecord := by
  intro i operands s later hwf hlen hc hin
  refine ⟨(Record.satisfied_iff _).2 hlen, ?_⟩
  rw [← hlen]
  obtain rfl | ⟨init, last, rfl⟩ := operands.eq_nil_or_concat'
  · refine (run_succ (step_opcode hwf hc hin) 0).trans ?_
    rw [startRecord_one hlen.symm, ← hc]; rfl
  · rw [List.length_append, List.length_singleton] at hlen ⊢
    have hin' : s.input = byteEvents (encodeWith i init) ++ (.byte last :: later) := by
      rw [hin]; simp [encodeWith]
    refine run_add_one (run_truncated hwf (by omega) hc hin') ?_
    rw [step_byte_acc rfl rfl, show i.mode.len - 1 - init.length = 1 by omega, appendOperand_last]
    rfl

theorem operand_of_unsatisfied {r : Record} (h : r.satisfied = false) : r.operand = none := by
  simp [Record.operand, h]

/-- Settles O32: End flushes the record in progress, which lacks at least one byte. -/
theorem truncatedInstructionIsFlushedByEnd : Obligations.TruncatedInstructionIsFlushedByEnd := by
  intro i operands s later hwf hmore hc hin r
  have hsat : r.satisfied = false := by
    rw [Record.satisfied, beq_eq_false_iff_ne]
    exact Nat.ne_of_lt hmore
  have hop := operand_of_unsatisfied hsat
  refine ⟨hsat, hop, operandText_none defaultParams hop, ?_⟩
  exact run_add_one (run_truncated hwf hmore hc hin) (step_end_acc rfl rfl)

/-- In `IDLE` an undefined byte is emitted at once. -/
theorem step_undefined {s : State} {b : Byte} {rest : List Event} (hb : b ∈ undefinedOpcodes) (hc : s.control = .idle)
    (hin : s.input = .byte b :: rest) :
    ∃ t, step s = .next t ∧ t.control = .idle ∧ t.pos = s.pos + 1 ∧ t.input = rest ∧
      t.out = s.out ++ [newRecord s.pos .Unknown .Unknown b] := by
  refine ⟨_, step_opcode (i := .unknown b) ((wellFormed_unknown_iff b).2 hb) hc hin, ?_⟩
  rw [startRecord_one rfl]
  exact ⟨hc, rfl, rfl, rfl⟩

/-- Each undefined byte of a run is emitted at the next offset and leaves `IDLE`. -/
theorem run_undefined {bs : List Byte} {s : State} {later : List Event} (hbs : ∀ b ∈ bs, b ∈ undefinedOpcodes)
    (hc : s.control = .idle) (hin : s.input = byteEvents bs ++ later) :
    ∃ t, Host.Core.run Sys2Proof.core bs.length s = .next t ∧ t.control = .idle ∧ t.pos = s.pos + bs.length ∧
      t.input = later ∧ t.out = s.out ++ bs.mapIdx fun k b => newRecord (s.pos + k) .Unknown .Unknown b := by
  induction bs generalizing s with
  | nil => exact ⟨s, rfl, hc, rfl, hin, (List.append_nil _).symm⟩
  | cons b bs ih =>
    obtain ⟨hb, hbs⟩ := List.forall_mem_cons.1 hbs
    obtain ⟨u, hstep, huc, hupos, huin, huout⟩ := step_undefined hb hc hin
    obtain ⟨t, hrun, htc, htpos, htin, htout⟩ := ih hbs huc huin
    refine ⟨t, (run_succ hstep _).trans hrun, htc, ?_, htin, ?_⟩
    · rw [htpos, hupos, List.length_cons, Nat.add_assoc, Nat.add_comm 1]
    · simp [htout, huout, hupos, List.mapIdx_cons, Nat.add_assoc, Nat.add_comm 1]

/-- Settles O33: a run in `IDLE` by `run_undefined`, and one step in `ACC`, where no byte is looked up. -/
theorem runOfUndefinedBytes : Obligations.RunOfUndefinedBytes := by
  refine ⟨fun bs s later hbs hc hin => run_undefined hbs hc hin, fun s cur need b later _ hc hin => ?_⟩
  refine ⟨_, cur.append b, step_byte_acc hin hc, ?_, rfl⟩
  exact (appendOperand_record cur need b (s.fetched later)).imp_right And.right

end Sys2Proof.Machine
end

section
/-! PROOFS. The bytes that the operand accessors read (41_addressing_modes.md R130): a satisfied record has a byte at every
position below its length, and an unsatisfied one answers nothing. -/

namespace Sys2Proof.Machine

section
variable {r : Record} (h : r.satisfied = true)
include h

theorem exists_rawByte {k : Nat} (hk : k < r.len) : ∃ b, r.rawBytes[k]? = some b :=
  ⟨_, List.getElem?_eq_getElem (((Record.satisfied_iff r).1 h).symm ▸ hk)⟩

theorem o8_of_satisfied (hlen : 2 ≤ r.len) : r.o8 = r.rawBytes[1]? := by
  simp [Record.o8, h, hlen]

theorem lo_of_satisfied (hlen : r.len = 3) : r.lo = r.rawBytes[1]? := by
  simp [Record.lo, h, hlen]

theorem hi_of_satisfied (hlen : r.len = 3) : r.hi = r.rawBytes[2]? := by
  simp [Record.hi, h, hlen]

theorem exists_o8 (hlen : 2 ≤ r.len) : ∃ b, r.o8 = some b ∧ r.rawBytes[1]? = some b := by
  obtain ⟨b, hb⟩ := exists_rawByte h hlen
  exact ⟨b, (o8_of_satisfied h hlen).trans hb, hb⟩

theorem exists_lo_hi (hlen : r.len = 3) :
    ∃ lo hi, r.lo = some lo ∧ r.hi = some hi ∧ r.rawBytes[1]? = some lo ∧ r.rawBytes[2]? = some hi := by
  obtain ⟨lo, hlo⟩ := exists_rawByte h (k := 1) (by omega)
  obtain ⟨hi, hhi⟩ := exists_rawByte h (k := 2) (by omega)
  exact ⟨lo, hi, (lo_of_satisfied h hlen).trans hlo, (hi_of_satisfied h hlen).trans hhi, hlo, hhi⟩

end

theorem w16_of_lo_hi {r : Record} {lo hi : Byte} (hlo : r.lo = some lo) (hhi : r.hi = some hi) :
    r.w16 = some (wordOf hi lo) := by
  simp [Record.w16, hlo, hhi]

theorem target_of_relative {r : Record} (hm : r.addressMode = .Relative) : r.target = r.o8.map (branchTarget r.offset) :=
  if_pos hm

section
variable {r : Record} (h : r.satisfied = false)
include h

theorem o8_of_unsatisfied : r.o8 = none := by simp [Record.o8, h]

theorem lo_of_unsatisfied : r.lo = none := by simp [Record.lo, h]

theorem hi_of_unsatisfied : r.hi = none := by simp [Record.hi, h]

theorem w16_of_unsatisfied : r.w16 = none := by simp [Record.w16, hi_of_unsatisfied h]

theorem target_of_unsatisfied : r.target = none := by simp [Record.target, o8_of_unsatisfied h]

end

/-- Each form needs no more bytes than the length of its mode (R135 to R148): one for the byte of an Unknown record, two for
`o8` and the target, three for `w16`. -/
theorem operand_isSome {r : Record} (h : r.satisfied = true) : r.operand.isSome = true := by
  have hopcode : r.opcode.isSome = true := by
    obtain ⟨b, hb⟩ := exists_rawByte h (AddressingMode.len_pos _)
    exact Option.isSome_of_eq_some hb
  have ho8 : 2 ≤ r.addressMode.len → r.o8.isSome = true := fun h2 => by
    obtain ⟨b, hb, _⟩ := exists_o8 h h2
    exact Option.isSome_of_eq_some hb
  have hw16 : r.addressMode.len = 3 → r.w16.isSome = true := fun h3 => by
    obtain ⟨lo, hi, hlo, hhi, _⟩ := exists_lo_hi h h3
    exact Option.isSome_of_eq_some (w16_of_lo_hi hlo hhi)
  rw [Record.operand, if_pos h]
  cases hm : r.addressMode with
  | Implied | Accumulator => rfl
  | Immediate | Zeropage | ZeropageX | ZeropageY | XIndirect | IndirectY =>
    exact Option.isSome_map.trans (ho8 (by rw [hm]; decide))
  | Absolute | AbsoluteX | AbsoluteY | Indirect => exact Option.isSome_map.trans (hw16 (by rw [hm]; rfl))
  | Relative =>
    rw [target_of_relative hm, Option.map_map]
    exact Option.isSome_map.trans (ho8 (by rw [hm]; decide))
  | Unknown => exact Option.isSome_map.trans hopcode

/-- Settles O55: every accessor reads a byte below the length of a satisfied record, and none of an unsatisfied one. -/
theorem operandsExistOnlyWhenSatisfied : Obligations.OperandsExistOnlyWhenSatisfied := fun _ =>
  ⟨fun h => ⟨exists_o8 h, exists_lo_hi h, operand_isSome h⟩,
    fun h => ⟨o8_of_unsatisfied h, lo_of_unsatisfied h, hi_of_unsatisfied h, w16_of_unsatisfied h, target_of_unsatisfied h,
      operand_of_unsatisfied h, fun p => operandText_none p (operand_of_unsatisfied h)⟩⟩

end Sys2Proof.Machine
end

section
/-! PROOFS. The 16-bit values of a record: the little-endian operand (41_addressing_modes.md R131) and the branch target with
its one adder (R134). -/

namespace Sys2Proof.Machine

theorem wordOf_toNat (hi lo : Byte) : (wordOf hi lo).toNat = hi.toNat * 256 + lo.toNat := by
  rw [wordOf, BitVec.toNat_append, ← Nat.shiftLeft_add_eq_or_of_lt lo.isLt, Nat.shiftLeft_eq]

theorem wordOf_high (hi lo : Byte) : (wordOf hi lo).extractLsb' 8 8 = hi := BitVec.extractLsb'_append_eq_left

theorem wordOf_low (hi lo : Byte) : (wordOf hi lo).extractLsb' 0 8 = lo := BitVec.extractLsb'_append_eq_right

/-- Settles O52: in each of the four modes, of length 3, `w16` is `hi:lo`. -/
theorem operand16IsLittleEndian : Obligations.Operand16IsLittleEndian := by
  refine ⟨fun off op m b lo hi hm => ⟨wordOf hi lo, ?_, wordOf_toNat hi lo, wordOf_high hi lo, wordOf_low hi lo⟩, rfl⟩
  have hlen : m.len = 3 := by obtain rfl | rfl | rfl | rfl := hm <;> rfl
  have hsat : Record.satisfied ⟨off, op, m, [b, lo, hi]⟩ = true := (Record.satisfied_iff _).2 hlen.symm
  exact w16_of_lo_hi (lo_of_satisfied hsat hlen) (hi_of_satisfied hsat hlen)

theorem branchTarget_toNat (off : Nat) (o8 : Byte) :
    ((branchTarget off o8).toNat : Int) = ((off : Int) + 2 + sext8 o8) % 65536 := by
  rw [branchTarget, BitVec.toNat_ofInt, Int.toNat_of_nonneg (Int.emod_nonneg _ (by decide))]
  rfl

/-- The adder computes the target: each of its three inputs is an addend modulo 2^16 (R134). -/
theorem branchTarget_eq_branchAdder (off : Nat) (o8 : Byte) : branchTarget off o8 = branchAdder off o8 := by
  rw [branchTarget, sext8_eq_toInt, BitVec.ofInt_add, BitVec.ofInt_add, BitVec.ofInt_natCast]
  rfl

/-- Only `offset[15:0]` reaches the adder. -/
theorem branchAdder_mod (off : Nat) (o8 : Byte) : branchAdder (off % 65536) o8 = branchAdder off o8 := by
  have hoff : BitVec.ofNat 16 (off % 65536) = BitVec.ofNat 16 off := BitVec.eq_of_toNat_eq (Nat.mod_mod off 65536)
  rw [branchAdder, hoff, branchAdder]

/-- Settles O53: the target by the formula, and by the adder on the low 16 bits of the offset. -/
theorem relativeTargetFormula : Obligations.RelativeTargetFormula := by
  refine ⟨fun off op b o8 => ⟨branchTarget off o8, rfl, branchTarget_toNat off o8, ?_⟩,
    fun off op b => target_of_unsatisfied rfl, by decide⟩
  calc branchTarget off o8 = branchAdder off o8 := branchTarget_eq_branchAdder off o8
    _ = branchAdder (off % 65536) o8 := (branchAdder_mod off o8).symm

end Sys2Proof.Machine
end

section
/-! PROOFS. The meaning of an instruction in `IDLE`, by the length of its mode (40_parser.md R102), and the family of
42_load_store_transfer.md. -/

namespace Sys2Proof.Machine

/-- In `IDLE` an instruction starts the record of its row. -/
theorem exec_idle {s : State} (hc : s.control = .idle) (i : Instr) :
    exec i s = .next (startRecord i.operation i.mode i.opcode s) := by
  rw [exec_eq, runOpcode, opcodeEvent_idle hc]

theorem emitsAtOnce_of_len (i : Instr) (hlen : i.mode.len = 1) : EmitsAtOnce i i.operation i.mode i.opcode := by
  intro s hc
  rw [exec_idle hc, startRecord_one hlen]
  rfl

theorem waitsForOperands_of_len (i : Instr) (hlen : i.mode.len ≠ 1) :
    WaitsForOperands i i.operation i.mode i.opcode (i.mode.len - 1) := by
  intro s hc
  rw [exec_idle hc, startRecord_more hlen]
  rfl

/-- Settles O19: no form of these six has a mode of length 1. -/
theorem loadAndStoreStartTheirRecord : Obligations.LoadAndStoreStartTheirRecord := by
  unfold Obligations.LoadAndStoreStartTheirRecord
  and_intros <;> exact waitsForOperands_of_len _ (by decide)

/-- Settles O20: `Implied` has length 1. -/
theorem transfersEmitTheirRecord : Obligations.TransfersEmitTheirRecord := by
  unfold Obligations.TransfersEmitTheirRecord
  and_intros <;> exact emitsAtOnce_of_len _ rfl

end Sys2Proof.Machine
end

section
/-! PROOFS. The family of 43_arith_logic_shift.md: in `IDLE` the length of its mode decides whether a form starts its record or
emits it. -/

namespace Sys2Proof.Machine

/-- Settles O21: no form of these six has a mode of length 1. -/
theorem arithmeticAndLogicStartTheirRecord : Obligations.ArithmeticAndLogicStartTheirRecord := by
  unfold Obligations.ArithmeticAndLogicStartTheirRecord
  and_intros <;> exact waitsForOperands_of_len _ (by decide)

/-- Settles O22: the 16 forms of CPX, CPY, BIT, INC and DEC have a longer mode than the four `Implied` ones. -/
theorem compareBitIncDecStartTheirRecord : Obligations.CompareBitIncDecStartTheirRecord := by
  unfold Obligations.CompareBitIncDecStartTheirRecord
  and_intros
  iterate 16 exact waitsForOperands_of_len _ (by decide)
  iterate 4 exact emitsAtOnce_of_len _ rfl

/-- Settles O23: of the five forms of each shift, the second is on `Accumulator`, the only mode of length 1 among them. -/
theorem shiftsStartOrEmitTheirRecord : Obligations.ShiftsStartOrEmitTheirRecord := by
  unfold Obligations.ShiftsStartOrEmitTheirRecord
  and_intros
  iterate 4
    · exact waitsForOperands_of_len _ (by decide)
    · exact emitsAtOnce_of_len _ rfl
    iterate 3 exact waitsForOperands_of_len _ (by decide)

end Sys2Proof.Machine
end

section
/-! PROOFS. The family of 44_control_flow.md: no branch, jump, return or break has a meaning beyond its record, so here too the
length of the mode decides. -/

namespace Sys2Proof.Machine

/-- Settles O24: `Relative` has length 2. -/
theorem branchesStartTheirRecord : Obligations.BranchesStartTheirRecord := by
  unfold Obligations.BranchesStartTheirRecord
  and_intros <;> exact waitsForOperands_of_len _ (by decide)

/-- Settles O25: JMP and JSR have a mode of length 3; RTS, RTI and BRK are `Implied`, of length 1 (for BRK, R222). -/
theorem jumpsReturnsAndBreakAreOnlyDecoded : Obligations.JumpsReturnsAndBreakAreOnlyDecoded := by
  unfold Obligations.JumpsReturnsAndBreakAreOnlyDecoded
  and_intros
  iterate 3 exact waitsForOperands_of_len _ (by decide)
  iterate 3 exact emitsAtOnce_of_len _ rfl

end Sys2Proof.Machine
end

section
/-! PROOFS. The family of 45_stack_flag_misc.md: no stack, flag or mask exists for these instructions to act on, and an undefined
byte is an instruction of length 1 like any other. -/

namespace Sys2Proof.Machine

/-- Settles O26: all twelve are `Implied`, of length 1. -/
theorem stackFlagAndNopEmitTheirRecord : Obligations.StackFlagAndNopEmitTheirRecord := by
  unfold Obligations.StackFlagAndNopEmitTheirRecord
  and_intros <;> exact emitsAtOnce_of_len _ rfl

/-- Settles O27: the mode `Unknown` has length 1, whatever the byte; that undefined bytes decode so is the map of
30_encoding.md R64. -/
theorem unknownEmitsTheByteAsARecord : Obligations.UnknownEmitsTheByteAsARecord :=
  ⟨fun b => emitsAtOnce_of_len (.unknown b) rfl, fun _ => decode_of_mem_undefinedOpcodes⟩

end Sys2Proof.Machine
end

section
/-! PROOFS. Digits (47_render.md R261, R262): those of a value, one by one and in two halves, and the value
that they read back as. -/

namespace Sys2Proof.Machine

theorem isHexDigit_digitChar {n : Nat} (h : n < 16) : isHexDigit (digitChar n) = true := by
  revert n
  decide

theorem textValue_append_digitChar {n : Nat} (h : n < 16) (base : Nat) (t : Text) :
    textValue base (t ++ [digitChar n]) = textValue base t * base + n := by
  have hvalue : ∀ n < 16, (if (digitChar n).toNat < 65 then (digitChar n).toNat - 48 else (digitChar n).toNat - 55) = n := by
    decide
  rw [textValue, List.foldl_append, List.foldl_cons, List.foldl_nil, hvalue n h, textValue]

theorem digits_succ (base d v : Nat) :
    digits base (d + 1) v = digits base d (v / base) ++ [digitChar (v % base)] := rfl

/-- The first `m` of `m + n` digits are those of the quotient by the weight of the last `n`. -/
theorem digits_add (base m n v : Nat) : digits base (m + n) v = digits base m (v / base ^ n) ++ digits base n v := by
  induction n generalizing v with
  | zero => rw [pow_zero, Nat.div_one, digits, List.append_nil, Nat.add_zero]
  | succ n ih => rw [← Nat.add_assoc, digits_succ, ih, digits_succ, Nat.div_div_eq_div_mul, ← pow_succ', List.append_assoc]

section
variable {base : Nat} (hbase : 0 < base)
include hbase

/-- What exceeds `d` digits by a multiple of their weight is not seen in them. -/
theorem digits_add_mul_pow (d v w : Nat) : digits base d (v + w * base ^ d) = digits base d v := by
  induction d generalizing v with
  | zero => rfl
  | succ d ih =>
    rw [digits_succ, pow_succ, ← Nat.mul_assoc, Nat.add_mul_div_right _ _ hbase, Nat.add_mul_mod_self_right, ih, digits_succ]

theorem exists_of_mem_digits {d v : Nat} {c : Char} (hc : c ∈ digits base d v) : ∃ n < base, c = digitChar n := by
  induction d generalizing v with
  | zero => exact absurd hc List.not_mem_nil
  | succ d ih =>
    rw [digits_succ, List.mem_append, List.mem_singleton] at hc
    exact hc.elim ih fun h => ⟨v % base, Nat.mod_lt v hbase, h⟩

theorem textValue_digits (hle : base ≤ 16) (d v : Nat) : textValue base (digits base d v) = v % base ^ d := by
  induction d generalizing v with
  | zero => rw [pow_zero, Nat.mod_one]; rfl
  | succ d ih =>
    have hdigit : v % base < 16 := Nat.lt_of_lt_of_le (Nat.mod_lt v hbase) hle
    rw [digits_succ, textValue_append_digitChar hdigit, ih, pow_succ', Nat.mod_mul, Nat.mul_comm, Nat.add_comm]

theorem textValue_digits_of_lt (hle : base ≤ 16) {d v : Nat} (hv : v < base ^ d) :
    textValue base (digits base d v) = v := by
  rw [textValue_digits hbase hle, Nat.mod_eq_of_lt hv]

end

theorem isHexDigit_of_mem_digits {d v : Nat} {c : Char} (hc : c ∈ digits 16 d v) : isHexDigit c = true := by
  obtain ⟨n, hn, rfl⟩ := exists_of_mem_digits (by decide) hc
  exact isHexDigit_digitChar hn

end Sys2Proof.Machine
end

section
/-! PROOFS. The operand text of a satisfied record, mode by mode (47_render.md R252 to R258): a 16-bit operand is shown with its
high byte first. -/

namespace Sys2Proof.Machine

theorem hex4_wordOf (hi lo : Byte) : hex4 (wordOf hi lo) = hex2 hi ++ hex2 lo := by
  have hhigh : (lo.toNat + hi.toNat * 16 ^ 2) / 16 ^ 2 = hi.toNat := by omega
  calc hex4 (wordOf hi lo)
      = digits 16 (2 + 2) (lo.toNat + hi.toNat * 16 ^ 2) := by rw [hex4, wordOf_toNat, Nat.add_comm]; rfl
    _ = hex2 hi ++ hex2 lo := by rw [digits_add, hhigh, digits_add_mul_pow (by decide), hex2, hex2]

/-- Settles O56: each operand is read off the bytes of its record, and a 16-bit one is shown as two bytes. -/
theorem operandTextOfEachMode : Obligations.OperandTextOfEachMode := by
  refine ⟨fun p off op b x y => ?_,
    fun x => ⟨hex2_length x, fun _ => isHexDigit_of_mem_digits, textValue_digits_of_lt (by decide) (by decide) x.isLt⟩,
    fun w => ⟨hex4_length w, fun _ => isHexDigit_of_mem_digits, textValue_digits_of_lt (by decide) (by decide) w.isLt⟩⟩
  have hword (before : Text) : before ++ hex4 (wordOf y x) = before ++ hex2 y ++ hex2 x := by
    rw [hex4_wordOf, List.append_assoc]
  exact ⟨rfl, rfl, rfl, rfl, rfl, rfl, hword _, congrArg (· ++ _) (hword _), congrArg (· ++ _) (hword _),
    congrArg (· ++ _) (hword _), rfl, rfl, rfl, hex4_length _⟩

end Sys2Proof.Machine
end

section
/-! PROOFS. The offset text (47_render.md R251): it has as many digits as the offset needs, and at least 4. -/

namespace Sys2Proof.Machine

/-- `d` hexadecimal digits are enough for exactly the values below their weight. -/
theorem hexLen_le_iff {d v : Nat} (hd : 0 < d) : hexLen v ≤ d ↔ v < 16 ^ d := by
  rcases Nat.eq_zero_or_pos v with rfl | hv
  · exact iff_of_true hd (Nat.pow_pos (by decide))
  · have hbits : v < 16 ^ d ↔ v.log2 < 4 * d := by
      rw [Nat.log2_lt (Nat.ne_of_gt hv), Nat.pow_mul]
    rw [hbits, hexLen]
    omega

theorem hexOffset_of_lt {v : Nat} (h : v < 0x10000) : hexOffset v = digits 16 4 v := by
  rw [hexOffset, Nat.max_eq_left ((hexLen_le_iff (by decide)).2 h)]

theorem four_lt_hexLen {v : Nat} (h : 0x10000 ≤ v) : 4 < hexLen v :=
  Nat.lt_of_not_le fun hle => Nat.not_lt.2 h ((hexLen_le_iff (by decide)).1 hle)

theorem hexOffset_of_ge {v : Nat} (h : 0x10000 ≤ v) : hexOffset v = digits 16 (hexLen v) v := by
  rw [hexOffset, Nat.max_eq_right (Nat.le_of_lt (four_lt_hexLen h))]

theorem offsetField_default (v : Nat) : offsetField defaultParams v = hexOffset v := by
  rcases Nat.lt_or_ge v 0x10000 with h | h
  · rw [offsetField_low _ h, hexOffset_of_lt h]
  · rw [offsetField_high _ h, defaultParams_offsetText]

theorem textValue_hexOffset (v : Nat) : textValue 16 (hexOffset v) = v :=
  textValue_digits_of_lt (by decide) (by decide)
    ((hexLen_le_iff (Nat.lt_of_lt_of_le (by decide) (Nat.le_max_left ..))).1 (Nat.le_max_right ..))

theorem hexOffset_injective {v w : Nat} (h : hexOffset v = hexOffset w) : v = w := by
  rw [← textValue_hexOffset v, h, textValue_hexOffset]

/-- The first of `d + 1` digits is the quotient by the weight of the others, when there is no more to show. -/
theorem digits_head? {d v : Nat} (h : v < 16 ^ (d + 1)) : (digits 16 (d + 1) v).head? = some (digitChar (v / 16 ^ d)) := by
  have hfirst : v / 16 ^ d < 16 := Nat.div_lt_of_lt_mul h
  rw [Nat.add_comm, digits_add, digits_succ, Nat.mod_eq_of_lt hfirst]
  rfl

theorem digitChar_ne_zero : ∀ {n : Nat}, n < 16 → 0 < n → digitChar n ≠ '0' := by
  decide

/-- One digit fewer would not be enough, so the first one is not 0. -/
theorem hexOffset_head?_ne_zero {v : Nat} (h : 0x10000 ≤ v) : (hexOffset v).head? ≠ some '0' := by
  obtain ⟨d, hd⟩ : ∃ d, hexLen v = d + 1 := ⟨_, rfl⟩
  have hpos : 0 < d := by
    have hlen := four_lt_hexLen h
    omega
  have hlt : v < 16 ^ (d + 1) := (hexLen_le_iff d.succ_pos).1 (Nat.le_of_eq hd)
  have hle : 16 ^ d ≤ v := by
    rw [← Nat.not_lt, ← hexLen_le_iff hpos, hd]
    exact Nat.not_succ_le_self d
  have hfirst : 0 < v / 16 ^ d := Nat.div_pos hle (Nat.pow_pos (by decide))
  rw [hexOffset_of_ge h, hd, digits_head? hlt, ne_eq, Option.some_inj]
  exact digitChar_ne_zero (Nat.div_lt_of_lt_mul hlt) hfirst

/-- Settles O57: the text is long enough to read back as the offset, and no longer than that from 0x10000 on. -/
theorem offsetTextIsNeverTruncated : Obligations.OffsetTextIsNeverTruncated := by
  refine ⟨fun v => ⟨fun _ => isHexDigit_of_mem_digits, textValue_hexOffset v, ?_, fun h => ?_, hexOffset_head?_ne_zero⟩,
    offsetField_default, fun _ _ => hexOffset_injective, rfl, rfl, rfl⟩
  · rw [hexOffset, digits_length]
    exact Nat.le_max_left ..
  · rw [hexOffset_of_lt h, digits_length]

end Sys2Proof.Machine
end

section
/-! PROOFS. The operand text of an Unknown record (47_render.md R262): the byte in binary, and its character. -/

namespace Sys2Proof.Machine

theorem mem_bin8 {b : Byte} {c : Char} (hc : c ∈ bin8 b) : c = '0' ∨ c = '1' := by
  obtain ⟨n, hn, rfl⟩ := exists_of_mem_digits (by decide) hc
  obtain rfl | rfl : n = 0 ∨ n = 1 := by omega
  · exact .inl rfl
  · exact .inr rfl

/-- Settles O58: by default nothing separates the character from the digits. -/
theorem unknownTextShowsTheByte : Obligations.UnknownTextShowsTheByte := fun _ _ b =>
  ⟨rfl, bin8_length b, fun _ => mem_bin8, textValue_digits_of_lt (by decide) (by decide) b.isLt⟩

end Sys2Proof.Machine
end

section
/-! PROOFS. The line of a record, part by part (47_render.md R250, R259, R264, R265), and the worked examples. -/

namespace Sys2Proof.Machine

theorem joinSpaces_eq_intercalate (ts : List Text) : joinSpaces ts = List.intercalate [' '] ts := by
  induction ts using joinSpaces.induct with
  | case1 => rfl
  | case2 t => exact List.intercalate_singleton.symm
  | case3 t u ts ih => rw [joinSpaces, ih, List.intercalate_cons_cons, List.append_assoc, List.singleton_append]

/-- Two digits for each byte, and a space between one byte and the next (R259). -/
theorem joinSpaces_hex2_length (bs : List Byte) : (joinSpaces (bs.map hex2)).length = 3 * bs.length - 1 := by
  induction bs with
  | nil => rfl
  | cons b bs ih =>
    cases bs with
    | nil => exact hex2_length b
    | cons c cs =>
      simp only [List.map_cons, joinSpaces, List.length_append, List.length_cons, hex2_length] at ih ⊢
      omega

theorem bytesHex_length (r : Record) : (bytesHex r).length = 3 * r.rawBytes.length - 1 := joinSpaces_hex2_length _

theorem mnemonicText_length (op : Operation) : (mnemonicText op).length = 3 := by
  cases op <;> rfl

/-- Three bytes fit the 8 columns of the bytes field, so the parts are 4, 3, 8 and 6 characters. -/
theorem linePrefix_length (p : RenderParams) {r : Record} (hbytes : r.rawBytes.length ≤ 3) (hoff : r.offset < 0x10000) :
    (linePrefix p r).length = 21 := by
  have hfield : (padRight (bytesHex r) 8).length = 8 := by
    rw [padRight_length, bytesHex_length]
    omega
  simp [linePrefix, offsetField_low p hoff, hfield]

theorem line_eq (r : Record) :
    line r = linePrefix defaultParams r ++ mnemonicText r.operation ++ ' ' :: operandText defaultParams r := by
  rw [line, lineWith, separator_default, List.append_assoc]
  rfl

/-- Settles O59. -/
theorem mnemonicStartsInColumn22 : Obligations.MnemonicStartsInColumn22 := fun r _ hbytes =>
  ⟨joinSpaces_eq_intercalate _, bytesHex_length r, fun _ => rfl, offsetField_default _,
    fun p hoff => ⟨(offsetField_low p hoff).trans (hexOffset_of_lt hoff).symm, linePrefix_length p hbytes hoff⟩,
    line_eq r, mnemonicText_length _⟩

/-- Settles O60, by running the model on the five inputs. -/
theorem sourceExampleListing : Obligations.SourceExampleListing :=
  ⟨rfl, rfl, rfl, rfl, rfl⟩

end Sys2Proof.Machine
end

section
/-! PROOFS. A position counter of finite width (60_exceptions.md R306), and a step with no event (R312). -/

namespace Sys2Proof.Machine

theorem posExhausted_some_iff (w : Nat) (s : State) : posExhausted (some w) s = true ↔ s.pos = 2 ^ w - 1 := beq_iff_eq

/-- A byte with the counter at its last value is refused in either phase. -/
theorem stepWith_refused {offsetBits : Option Nat} {s : State} {b : Byte} {rest : List Event}
    (hin : s.input = .byte b :: rest) (hpos : posExhausted offsetBits s = true) :
    stepWith offsetBits s = .refused .offsetExhausted := by
  simp [stepWith, hin, hpos]

/-- Only a byte reads the counter's width, so every step that is not a refused byte is the unbounded ISP's. -/
theorem stepWith_eq_step {offsetBits : Option Nat} {s : State}
    (hpos : ∀ b rest, s.input = .byte b :: rest → posExhausted offsetBits s = false) :
    stepWith offsetBits s = step s := by
  match hin : s.input with
  | [] | .endInput :: _ | .reset :: _ => simp [step, stepWith, hin]
  | .byte b :: rest => simp [step, stepWith, hin, hpos b rest hin, posExhausted_unbounded]

/-- Settles O51. -/
theorem finiteOffsetRefusesOnlyTheLastPosition : Obligations.FiniteOffsetRefusesOnlyTheLastPosition := by
  refine fun w s => ⟨fun b rest hin hlast => ?_, fun hother => ?_⟩
  · exact stepWith_refused hin ((posExhausted_some_iff w s).2 hlast)
  · refine stepWith_eq_step fun b rest hin => Bool.eq_false_iff.2 fun hex => ?_
    exact hother b rest hin ((posExhausted_some_iff w s).1 hex)

/-- Settles O15. -/
theorem noEventHoldsTheState : Obligations.NoEventHoldsTheState := fun _ => step_noEvent

end Sys2Proof.Machine
end

section
/-! PROOFS. A clock edge with `rst`, and one with a byte and the end of input (60_exceptions.md R305, 40_parser.md R113). -/

namespace Sys2Proof.Machine

theorem startRecord_records {s : State} (hc : s.control = .idle) (op : Operation) (mode : AddressingMode) (b : Byte) :
    (startRecord op mode b s).records = s.out ++ [newRecord s.pos op mode b] := by
  by_cases hlen : mode.len = 1
  · rw [startRecord_one hlen]; exact State.records_idle hc
  · rw [startRecord_more hlen]; rfl

theorem appendOperand_records (cur : Record) (need : Nat) (b : Byte) (s : State) :
    (appendOperand cur need b s).records = s.out ++ [cur.append b] := by
  by_cases hn : need = 1
  · subst hn; rw [appendOperand_last]; rfl
  · rw [appendOperand_more hn]; rfl

/-- A byte is the next byte of the invocation's records in any state, reachable or not; `byteEvent_bytes` asks for the
invariant. -/
theorem bytesOf_byteEvent (b : Byte) (s : State) :
    bytesOf (byteEventWith opTab b s).records = bytesOf s.records ++ [b] := by
  cases hc : s.control with
  | idle => simp [byteEventWith, opcodeEvent_idle hc, startRecord_records hc, State.records_idle hc]
  | acc cur need => simp [byteEventWith, opcodeEvent_acc hc, appendOperand_records, State.records_acc hc]

/-- A byte and End on one edge emit one record: the byte's step puts it on the bus, or leaves it to End's. -/
theorem byteThenEnd_bus {s : State} (hb : s.bus = none) (b : Byte) :
    ∃ r, ((byteEventWith opTab b s).bus = some r ∨ (byteEventWith opTab b s).cur = some r) ∧
      ((byteEventWith opTab b s).cur <|> (byteEventWith opTab b s).bus) = some r := by
  obtain ⟨hbus, hcur⟩ | ⟨hbus, hcur⟩ := byteEvent_bus_or_cur hb b
  · obtain ⟨r, hr⟩ := Option.isSome_iff_exists.1 hcur
    exact ⟨r, .inr hr, by simp [hr]⟩
  · obtain ⟨r, hr⟩ := Option.isSome_iff_exists.1 hbus
    exact ⟨r, .inl hr, by simp [hr, hcur]⟩

/-- An edge that is a byte with the end of input is two steps, with the outputs of both. -/
theorem clockEdge_two {e : Edge} {s t u : State} (h : e.events.length = 2)
    (ht : step { s with input := e.events } = .next t) (hu : step t = .next u) :
    clockEdge e s = .next ({ u with input := s.input }, portOut (u.bus <|> t.bus) (u.done || t.done)) := by
  simp [clockEdge, ht, hu, h]

theorem clockEdge_rst {e : Edge} (hrst : e.rst = true) (s : State) :
    clockEdge e s = .next ({ resetEvent s with input := s.input }, portOut none false) := by
  have hev := Edge.events_rst hrst
  have hstep : step { s with input := e.events } = .next (resetEvent (s.fetched [])) := step_reset hev
  rw [clockEdge_one (by simp [hev]) hstep]
  rfl

/-- Settles O47: the edge with both inputs is the byte's step and then End's, and one of them has the record on its bus. -/
theorem priorityOnOneClockEdge : Obligations.PriorityOnOneClockEdge := by
  refine ⟨fun e s hrst => clockEdge_rst hrst s, fun b s => ?_⟩
  have hbyte : step { s with input := [.byte b, .endInput] } = .next (byteEventWith opTab b (s.fetched [.endInput])) :=
    step_byte rfl
  have hend := step_end (byteEvent_input b (s.fetched [.endInput]))
  obtain ⟨r, hr, hbus⟩ := byteThenEnd_bus (s.fetched_bus [.endInput]) b
  refine ⟨_, _, portOut (some r) true, hbyte, hend, ?_, rfl, bytesOf_byteEvent b _, rfl, rfl, r, hr, rfl⟩
  rw [clockEdge_two rfl hbyte hend, endEvent_bus, State.fetched_cur, hbus]
  rfl

end Sys2Proof.Machine
end

section
/-! PROOFS. The `Reset` event (70_reset_and_hazards.md R320, R321): it leaves the reset values whatever came before it, so the
bytes after it start an invocation. -/

namespace Sys2Proof.Machine

/-- Nothing of `s` is left: `resetEvent` writes every field but `input`, and `fetched` writes that one. -/
theorem resetEvent_fetched (s : State) (rest : List Event) :
    resetEvent (s.fetched rest) = { State.reset with input := rest } := rfl

/-- Settles O14. -/
theorem resetEventGivesTheResetState : Obligations.ResetEventGivesTheResetState := fun s rest hin =>
  ⟨(step_reset hin).trans (congrArg Host.Outcome.next (resetEvent_fetched s rest)), rfl⟩

/-- The bytes of an abandoned invocation and `Reset`, from any state. -/
theorem run_bytes_reset {s : State} {bs : List Byte} {later : List Event}
    (hin : s.input = byteEvents bs ++ .reset :: later) :
    Host.Core.run Sys2Proof.core (bs.length + 1) s = .next { State.reset with input := later } := by
  rw [run_add_one (run_byteEvents hin) (step_reset (afterBytes_input hin)), resetEvent_fetched]

/-- Settles O40: `Reset` leaves the start of an invocation, from which End returns `Decode` of the bytes after it. -/
theorem resetDiscardsTheInvocation : Obligations.ResetDiscardsTheInvocation := by
  intro s a b later hin
  have hreset := run_bytes_reset hin
  have hfresh : ({ State.reset with input := byteEvents b ++ .endInput :: later } : State).Fresh := ⟨rfl, rfl, rfl⟩
  obtain ⟨t, hend, hresult, -, hrest⟩ := hfresh.run_end rfl
  exact ⟨⟨_, hreset, rfl, rfl, rfl, rfl⟩, t, (run_add hreset _).trans hend, hresult, hrest⟩

end Sys2Proof.Machine
end
